-- ==== Sys2Proof/Word.lean ====
section
/-! DEFINITION. The numbers of the part's objects and the words its bytes are made of
(spec/00_scope.md, "Numbering of objects" and "Capacities"). -/

namespace Sys2Proof

/-- One byte as it crosses a host port, the library flash or the plane link. -/
abbrev Byte := BitVec 8

/-- Host ports 0 to 3. -/
abbrev PortId := Fin 4

/-- Slots 0 to 447. -/
abbrev SlotId := Fin 448

/-- Sequences 0 to 31. -/
abbrev SeqId := Fin 32

/-- Light channels 0 to 3. -/
abbrev ChannelId := Fin 4

/-- A set of light channels: bit n names channel n (R175). -/
abbrev Mask := BitVec 4

/-- A 16-bit play tag (R59), session number (R144) or item sequence number (R168). -/
abbrev Word16 := BitVec 16

/-- A CRC-32 value (R180). -/
abbrev Crc32 := BitVec 32

end Sys2Proof
end

