-- ==== Sys2Proof/Config.lean ====
section
/-! DEFINITION. The capacities and times of the part (spec/00_scope.md, "Capacities"; R177). The spec fixes each of
them for every part it describes, so none is left free. Times are in µs, the model's unit of time. -/

namespace Sys2Proof.Config

/-- Bytes of one plane. -/
def planeBytes : Nat := 65536

/-- Step records in the pool (R41). -/
def poolSize : Nat := 1024

/-- Most steps one sequence holds (R38). -/
def maxSteps : Nat := 255

/-- Entries of the submission queue (R60). -/
def queueSize : Nat := 16

/-- Jobs of the load job queue (R32). -/
def maxJobs : Nat := 8

/-- Most entries of the library directory (R24). -/
def maxEntries : Nat := 512

/-- The library flash's size in bytes. -/
def flashBytes : Nat := 16777216

/-- Most bytes of one flash read burst (R23). -/
def burstBytes : Nat := 256

/-- Outstanding requests of one port (R161). -/
def maxOutstanding : Nat := 4

/-- Notices queued at one port (R167). -/
def maxNotices : Nat := 16

/-- Shows held in direct mode (R138). -/
def maxShows : Nat := 2

/-- Largest request body (R160). -/
def maxBody : Nat := 1024

/-- The plane link's answer timer, 2 ms (R117). -/
def answerTime : Nat := 2000

/-- The direct offer window, 50 ms (R134). -/
def offerTime : Nat := 50000

/-- The flash answer timeout of a read burst, 1 ms (R23). -/
def flashTime : Nat := 1000

/-- The length of a sync pulse, 2 µs (R115). -/
def syncTime : Nat := 2

/-- The unit of holds and gaps, 10 µs (R114). -/
def holdUnit : Nat := 10

/-- The unit of light limits, 100 µs (R129). -/
def limitUnit : Nat := 100

/-- The unit of the trigger timeout, 1 ms (R111). -/
def timeoutUnit : Nat := 1000

end Sys2Proof.Config
end

