-- ==== Sys2Proof/Syntax.lean ====
section
/-! DEFINITION. The commands of the part: one constructor of `Instr` for each row of
spec/opcode_table.json, each a whole and indivisible step of the part.

A row that executes a host request (ALLOCATE_SLOT and the like) names the port whose request in execution
the block takes; the request's bytes are those that port's WRITE brought. A row that is an event on a pin,
a link or a timer carries what the outside decides about it. -/

namespace Sys2Proof

/-- The two transactions that send an item (R147, R148). -/
inductive ReadKind where
  | read
  | readAgain
  deriving DecidableEq, Repr

/-- The first byte of a transaction, with whether PRSTn_n or RESET_n has been low at any time since chip-select fell
(R145, R151). -/
structure DirectionByte where
  value : Byte
  begunLow : Bool
  deriving DecidableEq, Repr

/-- The two trigger inputs TRGA and TRGB (R106). -/
inductive TrigInput where
  | a
  | b
  deriving DecidableEq, Repr

/-- The three blocks that raise faults against the holder of the output (R95). -/
inductive FaultSource where
  | link
  | trigger
  | lights
  deriving DecidableEq, Repr

/-- The commands and events of the part, in the order of spec/opcode_table.json. -/
inductive Instr where
  /-- WRITE: the whole bytes after the direction byte 01h (R146). -/
  | write (p : PortId) (bytes : List Byte)
  /-- READ: the rise of chip-select, with the number of whole bytes clocked after the direction byte (R147). -/
  | read (p : PortId) (clocked : Nat)
  /-- READ_AGAIN: as `read` (R148). -/
  | readAgain (p : PortId) (clocked : Nat)
  /-- PORT_RESET: the rise of chip-select; what is clocked after the direction byte is ignored (R145, R151). -/
  | portReset (p : PortId)
  | prstFall (p : PortId)
  | prstRise (p : PortId)
  /-- CHIP_RESET: the assertion of RESET_n, with the class straps as sampled, bit n being CLSn (R152, R153). -/
  | chipReset (straps : BitVec 4)
  /-- RESET_RELEASE: the straps, DRV_RDY and the trigger pins as they stand at the release (R37, R105, R118, R152). -/
  | resetRelease (straps : BitVec 4) (drvRdy trgA trgB : Bool)
  | replyArrival (p : PortId)
  | noticeArrival (p : PortId)
  | openSession (p : PortId)
  | closeSession (p : PortId)
  | deviceInfo (p : PortId)
  | allocateSlot (p : PortId)
  | openFill (p : PortId)
  | writePlane (p : PortId)
  | closeFill (p : PortId)
  | abandonFill (p : PortId)
  | freeSlot (p : PortId)
  | slotStatus (p : PortId)
  | libraryStatus (p : PortId)
  | libraryEntry (p : PortId)
  | rescanLibrary (p : PortId)
  | loadPlanes (p : PortId)
  | cancelLoad (p : PortId)
  | createSequence (p : PortId)
  | appendSteps (p : PortId)
  | removeSteps (p : PortId)
  | setRepeat (p : PortId)
  | sealSequence (p : PortId)
  | unsealSequence (p : PortId)
  | deleteSequence (p : PortId)
  | sequenceStatus (p : PortId)
  | readSteps (p : PortId)
  | submit (p : PortId)
  | requestDirect (p : PortId)
  | cancel (p : PortId)
  | cancelContext (p : PortId)
  | cancelFallback (p : PortId)
  | queueStatus (p : PortId)
  | setHoldLevel (p : PortId)
  | setFallback (p : PortId)
  | clearHalt (p : PortId)
  | resetPlayer (p : PortId)
  | playerStatus (p : PortId)
  | configureTriggers (p : PortId)
  | trigger (p : PortId)
  | triggerStatus (p : PortId)
  | configureLights (p : PortId)
  | linkStatus (p : PortId)
  | acceptDirect (p : PortId)
  | showPlane (p : PortId)
  | releaseDirect (p : PortId)
  | sessionEndPlaneStore (p : PortId)
  | sessionEndLoader (p : PortId)
  | sessionEndSequences (p : PortId)
  | sessionEndQueue (p : PortId)
  | sessionEndPlayer (p : PortId)
  /-- FLASH_BURST_DONE: the bytes the flash gave for the burst in progress (R23). -/
  | flashBurstDone (data : List Byte)
  | flashAnswerTimeout
  | selectRequest
  | loadedTaken
  | consumptionTaken
  | swappedTaken
  | syncPulseEnd
  | holdTimerExpiry
  | gapTimerExpiry
  /-- FAULT_TAKEN: the player takes the oldest fault handed to it by the block named. -/
  | faultTaken (src : FaultSource)
  | linkReportTaken
  /-- RECOGNISED_LEVEL_CHANGE: the pin has held the level given for 1 µs (R106). -/
  | recognisedLevelChange (input : TrigInput) (level : Bool)
  | triggerTimeoutExpiry
  | drvRdyFall
  | drvRdyRise
  | answerTimerExpiry
  /-- LOAD_TRANSMISSION_END: `damage` is the difference, by exclusive or, between the CRC-32 of the bytes as
  they left the part and that of the bytes the plane store holds; 0 when the bytes left unchanged (R128). -/
  | loadTransmissionEnd (damage : Crc32)
  | loadedAnswer
  /-- REJECTED_ANSWER with the driver's reason code (R124, R179). -/
  | rejectedAnswer (reason : Byte)
  | swappedAnswer
  | blankedAnswer
  | lightLimitExpiry (ch : ChannelId)
  | offerWindowExpiry
  | showTimerExpiry
  /-- DIRECTION_BYTE_END: the end of a transaction's direction byte (R145, R147). -/
  | directionByteEnd (p : PortId) (first : DirectionByte)
  | startToken
  deriving DecidableEq, Repr

end Sys2Proof
end

