-- ==== Sys2Proof/WellFormed.lean ====
section
/-! DEFINITION. Which terms of `Instr` are commands the part can meet. Every operand of a fixed range has a type of
that range, so one check is left: a completed flash burst brings from 1 to 256 bytes (R23). -/

namespace Sys2Proof

/-- The operands of a command lie in the ranges the spec gives them. -/
def WellFormed : Instr → Bool
  | .flashBurstDone data => decide (1 ≤ data.length ∧ data.length ≤ Config.burstBytes)
  | .write _ _ | .read _ _ | .readAgain _ _ | .portReset _ | .prstFall _ | .prstRise _ => true
  | .chipReset _ | .resetRelease _ _ _ _ | .replyArrival _ | .noticeArrival _ => true
  | .openSession _ | .closeSession _ | .deviceInfo _ => true
  | .allocateSlot _ | .openFill _ | .writePlane _ | .closeFill _ | .abandonFill _ | .freeSlot _ | .slotStatus _ => true
  | .libraryStatus _ | .libraryEntry _ | .rescanLibrary _ | .loadPlanes _ | .cancelLoad _ => true
  | .createSequence _ | .appendSteps _ | .removeSteps _ | .setRepeat _ | .sealSequence _ => true
  | .unsealSequence _ | .deleteSequence _ | .sequenceStatus _ | .readSteps _ => true
  | .submit _ | .requestDirect _ | .cancel _ | .cancelContext _ | .cancelFallback _ | .queueStatus _ => true
  | .setHoldLevel _ | .setFallback _ | .clearHalt _ | .resetPlayer _ | .playerStatus _ => true
  | .configureTriggers _ | .trigger _ | .triggerStatus _ | .configureLights _ | .linkStatus _ => true
  | .acceptDirect _ | .showPlane _ | .releaseDirect _ => true
  | .sessionEndPlaneStore _ | .sessionEndLoader _ | .sessionEndSequences _ => true
  | .sessionEndQueue _ | .sessionEndPlayer _ => true
  | .flashAnswerTimeout | .selectRequest | .loadedTaken | .consumptionTaken | .swappedTaken => true
  | .syncPulseEnd | .holdTimerExpiry | .gapTimerExpiry | .faultTaken _ | .linkReportTaken => true
  | .recognisedLevelChange _ _ | .triggerTimeoutExpiry | .drvRdyFall | .drvRdyRise | .answerTimerExpiry => true
  | .loadTransmissionEnd _ | .loadedAnswer | .rejectedAnswer _ | .swappedAnswer | .blankedAnswer => true
  | .lightLimitExpiry _ | .offerWindowExpiry | .showTimerExpiry | .directionByteEnd _ _ | .startToken => true

end Sys2Proof
end

