-- ==== Sys2Proof/Decode.lean ====
section
/-! DEFINITION. No row of spec/opcode_table.json gives bits: its commands are requests in frames, bus transactions,
events on pins and the part's own events. So no word spells a command (the decoding of a request frame's bytes is the
port's own work and stands in Machine/Ports.lean). -/

namespace Sys2Proof

/-- The command a word spells by the table's bits: none, for the table gives no row any bits. -/
def decodeTableWord (_nbits _w : Nat) : Option Instr := none

end Sys2Proof
end

