-- ==== Sys2Proof/Machine/State.lean ====
section
/-! DEFINITION. The state of the part, block by block (spec/00_scope.md, "Block diagram"), as plain data, and the state
that the assertion of RESET_n leaves. -/

namespace Sys2Proof.Machine

/-! ## Host ports (R144) -/

/-- The class of a port, from its strap (R152). -/
inductive PortClass where
  | ordinary
  | control
  deriving DecidableEq, Repr

/-- The fourteen statuses of a reply (R165). -/
inductive Status where
  | done | retry | unknownCommand | badLength | badArgument | noSession | notPermitted | notOwner | wrongState
  | inUse | exhausted | checkFailed | tagInUse | libraryUnavailable
  deriving DecidableEq, Repr

/-- The commands of the catalogue (R172, "Command catalogue"). -/
inductive Command where
  | openSession | closeSession | deviceInfo
  | allocateSlot | openFill | writePlane | closeFill | abandonFill | freeSlot | slotStatus
  | libraryStatus | libraryEntry | rescanLibrary | loadPlanes | cancelLoad
  | createSequence | appendSteps | removeSteps | setRepeat | sealSequence | unsealSequence | deleteSequence
  | sequenceStatus | readSteps
  | submit | requestDirect | cancel | queueStatus | setHoldLevel
  | setFallback | clearHalt | resetPlayer | playerStatus
  | configureTriggers | trigger | triggerStatus
  | configureLights | linkStatus
  | acceptDirect | showPlane | releaseDirect
  deriving DecidableEq, Repr

/-- The blocks that execute requests and hand replies and notices to the ports. Direct-mode control acts inside the
player's actions and is not told apart from it (spec/08_direct_mode.md). -/
inductive Block where
  | store | loader | table | queue | player | trigger | lights | link
  deriving DecidableEq, Repr

/-- A request of the inbound list (R161, R162). -/
structure Request where
  tag : Byte
  code : Byte
  body : List Byte
  duplicate : Bool
  deriving DecidableEq, Repr

/-- Where a request in execution stands: handed to a block, passed by the queue to the player (R67), or answered by its
block with the reply on its way to the port. -/
inductive Place where
  | atBlock (b : Block)
  | passedCancel
  | passedFallback
  | answered
  deriving DecidableEq, Repr

/-- The request in execution, with the session number it was handed under (R144, R154). -/
structure InExec where
  tag : Byte
  code : Byte
  body : List Byte
  session : Word16
  place : Place
  deriving DecidableEq, Repr

/-- The kinds of item, with their codes 0, 1, 2 in order (R174). -/
inductive ItemKind where
  | empty
  | reply
  | notice
  deriving DecidableEq, Repr

/-- An item of an outbound queue, or the EMPTY item (R167, R174). `code` is the status of a reply or the code of a
notice. -/
structure Item where
  kind : ItemKind
  tag : Byte
  number : Word16
  code : Byte
  lost : Bool
  body : List Byte
  deriving DecidableEq, Repr

/-- The four transactions a direction byte begins (R145). -/
inductive Direction where
  | write | read | readAgain | portReset
  deriving DecidableEq, Repr

/-- A transaction between the end of its direction byte and the rise of chip-select: a READ or READ_AGAIN with the status
byte and the item the port has fixed to send (R147), and a transaction that is ignored until its rise, because it began while
a reset line was low or was in progress at a reset (R145, R151, R153). -/
inductive Txn where
  | write
  | portReset
  | reading (kind : ReadKind) (status : Byte) (item : Item)
  | ignored (d : Direction)
  deriving DecidableEq, Repr

/-! ## Plane store (R1, R2) -/

/-- How a slot became READY (R1). -/
inductive Origin where
  | host
  | library (entry : Nat)
  deriving DecidableEq, Repr

/-- The five slot states, each with the fields R1 says are present in it. -/
inductive SlotContent where
  | free
  | held
  | filling (progress : Nat) (crc : Crc32)
  | loading (progress : Nat) (crc : Crc32)
  | ready (crc : Crc32) (origin : Origin)
  deriving DecidableEq, Repr

/-- The names of the slot states, as reported (R175). -/
inductive SlotState where
  | free | held | filling | loading | ready
  deriving DecidableEq, Repr

/-- The outcome of the last fill or load that ended without the slot becoming READY (R1). -/
inductive LastResult where
  | none | checkFailed | flashError | formatError | cancelled | abandoned
  deriving DecidableEq, Repr

/-- A slot record (R1). -/
structure Slot where
  content : SlotContent
  owner : Option PortId
  pins : Nat
  lastResult : LastResult
  mismatches : Nat
  orphan : Bool
  deriving DecidableEq, Repr

/-- The record of a FREE slot (R2). -/
def Slot.free : Slot :=
  { content := .free, owner := none, pins := 0, lastResult := .none, mismatches := 0, orphan := false }

/-! ## Library loader (R22, R32) -/

inductive LibState where
  | absent | scanning | valid | invalid
  deriving DecidableEq, Repr

inductive InvalidReason where
  | none | noAnswer | badSignature | badCount | badCrc
  deriving DecidableEq, Repr

/-- A directory entry (spec/02_library_loading.md, "The library flash"; R178). -/
structure DirEntry where
  offset : Nat
  length : Nat
  crc : Crc32
  form : Byte
  label : List Byte
  deriving DecidableEq, Repr

/-- A scan in progress: the header once read (entry count, directory CRC) and the table bytes taken so far (R24). -/
structure Scan where
  header : Option (Nat × Crc32)
  table : List Byte
  deriving DecidableEq, Repr

/-- A load job (R32). -/
structure Job where
  slot : SlotId
  entry : Nat
  port : PortId
  deriving DecidableEq, Repr

/-- Where the expansion of a PACKED plane stands between two stored bytes (R25): at a run header, with literal bytes
still to copy, or at the byte of a repeat run. -/
inductive RunPart where
  | header
  | literal (left : Nat)
  | repeated (count : Nat)
  deriving DecidableEq, Repr

/-- The running job's work: its copy of the directory entry, the stored bytes taken, and the expansion (R32, R33). -/
structure JobRun where
  entry : DirEntry
  taken : Nat
  run : RunPart
  deriving DecidableEq, Repr

/-- The read burst in progress; `timer` runs until the start token (R23). -/
structure Burst where
  offset : Nat
  length : Nat
  timer : Option Nat
  deriving DecidableEq, Repr

/-- The results LOAD_DONE carries (R34). -/
inductive LoadResult where
  | loaded | checkFailed | formatError | flashError
  deriving DecidableEq, Repr

/-- The library loader (R22, R23, R24, R32). -/
structure Loader where
  state : LibState
  reason : InvalidReason
  entries : List DirEntry
  dirCrc : Crc32
  scan : Option Scan
  jobs : List Job
  run : Option JobRun
  burst : Option Burst
  deriving DecidableEq, Repr

/-! ## Sequence table (R38, R40) -/

inductive Advance where
  | timed | triggerA | triggerB | soft
  deriving DecidableEq, Repr

/-- A step (R40). Hold and gap are in units of 10 µs. -/
structure Step where
  slot : SlotId
  hold : Nat
  gap : Nat
  advance : Advance
  mask : Mask
  verify : Bool
  deriving DecidableEq, Repr

inductive SeqState where
  | empty | opened | sealed
  deriving DecidableEq, Repr

/-- A sequence record (R38); `opened` is OPEN, `sealed` is SEALED. The repeat count is meaningful when the state is
not EMPTY; the step count is the length of `steps`. -/
structure Sequence where
  state : SeqState
  owner : Option PortId
  repeatCount : Nat
  steps : List Step
  uses : Nat
  orphan : Bool
  deriving DecidableEq, Repr

/-- The record of an EMPTY sequence (R39). -/
def Sequence.empty : Sequence :=
  { state := .empty, owner := none, repeatCount := 0, steps := [], uses := 0, orphan := false }

/-! ## Submission queue (R59) -/

/-- What an entry asks for, with the fields present for its kind (R59). -/
inductive Ask where
  | play (tag : Word16) (seq : SeqId) (override : Nat)
  | direct
  deriving DecidableEq, Repr

/-- An entry of the submission queue (R59). -/
structure Entry where
  level : Nat
  port : PortId
  ask : Ask
  deriving DecidableEq, Repr

/-! ## Player and direct-mode control (R77, R79, R133) -/

/-- Passes of the step list still to begin (R79). -/
inductive Remaining where
  | count (n : Nat)
  | endless
  deriving DecidableEq, Repr

inductive Phase where
  | staging | waiting | hold | gap
  deriving DecidableEq, Repr

/-- A context (R79). `port` and `level` are absent for the fallback context, `phase` while suspended. -/
structure Context where
  seq : SeqId
  port : Option PortId
  tag : Word16
  level : Option Nat
  idx : Nat
  remaining : Remaining
  phase : Option Phase
  cut : Bool
  late : Nat
  deriving DecidableEq, Repr

inductive ShowStage where
  | waiting | staging | loaded | swapping | hold
  deriving DecidableEq, Repr

/-- A show of the show list (R133). The hold is in units of 10 µs. -/
structure Show where
  number : Byte
  slot : SlotId
  hold : Nat
  mask : Mask
  verify : Bool
  stage : ShowStage
  deriving DecidableEq, Repr

/-- An offer of direct mode: phase OFFERED of R133. -/
structure Offer where
  port : PortId
  level : Nat
  window : Option Nat
  deriving DecidableEq, Repr

/-- A holding of direct mode: phase HOLDING of R133. -/
structure Direct where
  port : PortId
  level : Nat
  shows : List Show
  timer : Option Nat
  deriving DecidableEq, Repr

/-- The player state with what holds the output in it (R77); at most one holder exists. Each holding of the output
carries its holding number (R95). -/
inductive Output where
  | idle
  | running (number : Nat) (c : Context)
  | offering (number : Nat) (o : Offer)
  | direct (number : Nat) (d : Direct)
  | fallback (number : Nat) (c : Context)
  | halted
  deriving DecidableEq, Repr

inductive FaultKind where
  | planeCheck | linkReject | linkTimeout | linkDown | triggerTimeout | lightLimit
  deriving DecidableEq, Repr

inductive HolderKind where
  | context | fallback | direct
  deriving DecidableEq, Repr

/-- The fault record (R95); an absent field is `none`. -/
structure FaultRecord where
  kind : FaultKind
  holder : HolderKind
  seq : Option SeqId
  idx : Option Nat
  slot : Option SlotId
  port : Option PortId
  level : Option Nat
  reason : Option Byte
  deriving DecidableEq, Repr

/-- A fault on its way to the player: the holding it names, the step or show and slot where the raising block names
them, and the driver's reason code of a LINK_REJECT (R95). -/
structure RaisedFault where
  kind : FaultKind
  number : Nat
  item : Option (Nat × SlotId)
  reason : Option Byte
  deriving DecidableEq, Repr

/-- The player (R79, R80, R95, R97, R99, R114). The suspension stack is kept top first; `lastNumber` is the last holding
number given. -/
structure Player where
  out : Output
  stack : List Context
  designated : Option SeqId
  holdLevel : Nat
  holdTimer : Option Nat
  gapTimer : Option Nat
  faultRecord : Option FaultRecord
  haltRecord : Option FaultRecord
  linkUp : Bool
  lastNumber : Nat
  deriving DecidableEq, Repr

/-! ## Trigger unit (R105) -/

inductive Source where
  | a | b | soft
  deriving DecidableEq, Repr

/-- A holder as other blocks name it (R105, R118), without its holding number. -/
inductive Holder where
  | context (port : PortId) (tag : Word16)
  | fallback
  | direct (port : PortId)
  deriving DecidableEq, Repr

/-- A holder with its holding number (R95). -/
structure HolderRef where
  who : Holder
  number : Nat
  deriving DecidableEq, Repr

/-- The configuration of one trigger input (R105). -/
structure InputConfig where
  enabled : Bool
  falling : Bool
  deriving DecidableEq, Repr

/-- A latch and its overrun flag (R105). -/
structure Latch where
  pending : Bool
  overrun : Bool
  deriving DecidableEq, Repr

/-- The wait of the trigger unit; `timer` is stopped when the timeout is 0 (R105, R111). -/
structure Wait where
  source : Source
  holder : HolderRef
  timeout : Nat
  timer : Option Nat
  deriving DecidableEq, Repr

/-- The trigger unit (R105). `sync` is the time left of a pulse on SYNC_OUT. -/
structure Trigger where
  cfgA : InputConfig
  cfgB : InputConfig
  timeout : Nat
  levelA : Bool
  levelB : Bool
  latchA : Latch
  latchB : Latch
  latchSoft : Latch
  wait : Option Wait
  sync : Option Nat
  deriving DecidableEq, Repr

/-! ## Plane link (R118) -/

inductive LinkState where
  | down | idle | transmitting | awaitLoaded | awaitSwapped | awaitBlanked | failed
  deriving DecidableEq, Repr

inductive Stage where
  | pending | sending | loaded | swapping
  deriving DecidableEq, Repr

/-- The staged-plane identity (R118). `idx` is the step index or the show number. -/
structure Identity where
  holder : HolderRef
  idx : Nat
  slot : SlotId
  verify : Bool
  stage : Stage
  deriving DecidableEq, Repr

inductive Display where
  | slot (n : SlotId)
  | dark
  | unknown
  deriving DecidableEq, Repr

/-- The three messages to the driver (R117). -/
inductive Message where
  | load (slot : SlotId)
  | swap
  | blank
  deriving DecidableEq, Repr

/-- The plane link (R118). `msgSlot` is the slot of the LOAD or SWAP whose answer is awaited, `readCrc` the content CRC
the store handed when the data read began (R17), `sent` the last message sent. -/
structure Link where
  state : LinkState
  identity : Option Identity
  ignore : Bool
  pendingBlank : Bool
  timer : Option Nat
  display : Display
  msgSlot : Option SlotId
  readCrc : Option Crc32
  sent : Option Message
  deriving DecidableEq, Repr

/-! ## Light channel unit (R129) -/

/-- One light channel; the on-time is in µs, the limit in units of 100 µs (R129). -/
structure Light where
  on : Bool
  holder : Option HolderRef
  onTime : Nat
  limit : Nat
  trip : Bool
  deriving DecidableEq, Repr

/-! ## What blocks hand each other -/

/-- The reasons an abort, an ending or a removal carries (R175). -/
inductive EndReason where
  | cancelled | playerReset | completed | lapsed | preempted | released | fault | sessionEnd
  deriving DecidableEq, Repr

/-- The reason of a CONTEXT_ABORTED (R175). -/
inductive AbortReason where
  | ended (r : EndReason)
  | faulted (k : FaultKind)
  deriving DecidableEq, Repr

/-- The notices with their bodies (R170). -/
inductive Notice where
  | loadDone (slot : SlotId) (result : LoadResult) (state : SlotState) (written : Nat)
  | libraryScanned (state : LibState) (reason : InvalidReason) (count : Nat)
  | contextStarted (tag : Word16) (seq : SeqId) (level : Nat) (count : Nat)
  | contextPreempted (tag : Word16) (idx : Nat) (level : Nat) (cut : Bool)
  | contextResumed (tag : Word16) (idx : Nat) (cut : Bool)
  | contextCompleted (tag : Word16) (late : Nat)
  | contextAborted (tag : Word16) (reason : AbortReason) (idx : Nat) (late : Nat)
  | entryRemoved (reason : EndReason) (entry : Entry)
  | directOffered (level : Nat)
  | directEnded (reason : EndReason) (level : Nat) (discarded : Nat) (byLevel : Option Nat)
  | showDone (number : Byte) (slot : SlotId)
  | playerFault (record : FaultRecord)
  | playerHalted (first : Option FaultRecord) (record : FaultRecord)
  | fallbackStarted (seq : SeqId) (kind : FaultKind)
  | fallbackEnded (reason : EndReason)
  | triggerOverrun (source : Source)
  | linkChanged (new old : LinkState) (drvRdy : Bool)
  deriving DecidableEq, Repr

/-- What a block has handed to a port and the port has not yet taken (R158). -/
inductive Handed where
  | reply (status : Status) (body : List Byte)
  | notice (n : Notice)
  deriving DecidableEq, Repr

/-- The fault that comes with a report of entering DOWN or FAILED (R119, R121): none, one that names a holding, or one
against whatever holds the output when the player takes the report. -/
inductive ReportFault where
  | none
  | named (f : RaisedFault)
  | presentHolder
  deriving DecidableEq, Repr

/-- What the plane link has handed to the player and the player has not yet taken. -/
inductive LinkEvent where
  | loaded (number : Nat) (idx : Nat)
  | swapped (number : Nat) (idx : Nat)
  | fault (f : RaisedFault)
  | report (available : Bool) (f : ReportFault)
  deriving DecidableEq, Repr

/-- What the trigger unit has handed to the player and the player has not yet taken. -/
inductive TrigEvent where
  | consumption (number : Nat)
  | fault (f : RaisedFault)
  deriving DecidableEq, Repr

/-- A session-end announcement on its way to a block (R157). -/
structure Announcement where
  block : Block
  port : PortId
  session : Word16
  deriving DecidableEq, Repr

/-- A host port (R144). `inbox` is what blocks have handed it and it has not yet taken; `txn` the transaction in
progress, from the end of its direction byte on; `sdo` the bytes it sent on SDOn after the direction byte of the
latest transaction, of any direction byte, up to that transaction's latest event, with 00h for every byte clocked after those
listed (R145); `prstLow` the level of PRSTn_n. -/
structure Port where
  cls : PortClass
  sessionOpen : Bool
  sessionNo : Word16
  inbound : List Request
  inExec : Option InExec
  stale : Bool
  outbound : List Item
  outstanding : Nat
  rejected : Bool
  badFrame : Bool
  lastDelivered : Option Item
  nextNumber : Word16
  lostMark : Bool
  prstLow : Bool
  txn : Option Txn
  sdo : List Byte
  inbox : List Handed
  deriving DecidableEq, Repr

/-- The state of the part. `planeMem` is the plane memory, the byte of slot n at offset o standing at address
65536 n + o; `pending` the commands that wait, first in first out. -/
structure State where
  resetLow : Bool
  ports : Vector Port 4
  announcements : List Announcement
  slots : Vector Slot 448
  planeMem : List Host.Cell
  lib : Loader
  seqs : Vector Sequence 32
  poolFree : Nat
  queue : List Entry
  selects : Nat
  player : Player
  trig : Trigger
  link : Link
  lights : Vector Light 4
  fromLink : List LinkEvent
  fromTrig : List TrigEvent
  fromLights : List RaisedFault
  pending : List Instr
  deriving DecidableEq, Repr

/-- The faults a step can stop with: none. Every command of the table has an effect the spec gives, and the spec
describes no event that stops the part. -/
inductive Fault where
  deriving DecidableEq, Repr

/-- The reasons a step is refused. -/
inductive Refusal where
  /-- Raised by `exec` alone, for a command that has no meaning yet; safe, since no next state is claimed. No arm of
  `exec` raises it. -/
  | notModelled (mnemonic : String)
  deriving DecidableEq, Repr

/-- The outcome of one step. -/
abbrev Result := Host.Outcome State Fault Refusal

/-! ## The state after the assertion of RESET_n -/

/-- A port after chip reset, of the class its strap gives (R144). -/
def Port.afterReset (cls : PortClass) (prstLow : Bool) : Port :=
  { cls := cls, sessionOpen := false, sessionNo := 0, inbound := [], inExec := none, stale := false, outbound := []
    outstanding := 0, rejected := false, badFrame := false, lastDelivered := none, nextNumber := 0, lostMark := false
    prstLow := prstLow, txn := none, sdo := [], inbox := [] }

/-- The loader while RESET_n is low: no directory image, no job, no burst (R37). ABSENT with NO_ANSWER stands for a
library no scan has yet found (DESIGN CHOICE, notes/assumptions/1.md). -/
def Loader.afterReset : Loader :=
  { state := .absent, reason := .noAnswer, entries := [], dirCrc := 0, scan := none, jobs := [], run := none
    burst := none }

/-- The player after chip reset (R104); the link is unavailable until the release says otherwise (R118). -/
def Player.afterReset : Player :=
  { out := .idle, stack := [], designated := none, holdLevel := 0, holdTimer := none, gapTimer := none
    faultRecord := none, haltRecord := none, linkUp := false, lastNumber := 0 }

/-- The trigger unit after chip reset (R105). The recognised levels are those of the release; until then they are held
low (DESIGN CHOICE, notes/assumptions/1.md). -/
def Trigger.afterReset : Trigger :=
  { cfgA := { enabled := false, falling := false }, cfgB := { enabled := false, falling := false }, timeout := 0
    levelA := false, levelB := false, latchA := { pending := false, overrun := false }
    latchB := { pending := false, overrun := false }, latchSoft := { pending := false, overrun := false }
    wait := none, sync := none }

/-- The plane link while RESET_n is low (R118). DOWN stands for a link whose state the release decides (DESIGN CHOICE,
notes/assumptions/1.md). -/
def Link.afterReset : Link :=
  { state := .down, identity := none, ignore := false, pendingBlank := false, timer := none, display := .unknown
    msgSlot := none, readCrc := none, sent := none }

/-- A light channel after chip reset (R129). -/
def Light.afterReset : Light := { on := false, holder := none, onTime := 0, limit := 0, trip := false }

/-- The machine right after reset: RESET_n has been asserted and is still low. Every block is in its reset state (R21,
R37, R58, R76, R104, R105, R118, R129, R133, R144, R153). The straps count as low until they are sampled (DESIGN CHOICE,
notes/assumptions/1.md). -/
def State.reset : State :=
  { resetLow := true
    ports := Vector.replicate 4 (Port.afterReset .ordinary false)
    announcements := []
    slots := Vector.replicate 448 Slot.free
    planeMem := []
    lib := Loader.afterReset
    seqs := Vector.replicate 32 Sequence.empty
    poolFree := Config.poolSize
    queue := []
    selects := 0
    player := Player.afterReset
    trig := Trigger.afterReset
    link := Link.afterReset
    lights := Vector.replicate 4 Light.afterReset
    fromLink := []
    fromTrig := []
    fromLights := []
    pending := [] }

end Sys2Proof.Machine
end

