-- ==== Sys2Proof/Machine/Formats.lean ====
section
/-! DEFINITION. Byte layouts: multi-byte fields, CRCs, enumerated values, reported records, notice bodies, items, and the
messages of the plane link and the flash (spec/11_message_formats_and_worked_transactions.md). -/

namespace Sys2Proof.Machine

/-! ## Fields (R175) -/

/-- One byte of a number. -/
def u8 (n : Nat) : List Byte := [BitVec.ofNat 8 n]

/-- Two bytes, low byte first. -/
def le2 (n : Nat) : List Byte := [BitVec.ofNat 8 n, BitVec.ofNat 8 (n / 256)]

/-- Four bytes, low byte first. -/
def le4 (n : Nat) : List Byte := le2 n ++ le2 (n / 65536)

/-- A flag: 0 for clear or no, 1 for set or yes. -/
def flag (b : Bool) : List Byte := if b then [1] else [0]

/-- An absent field of the width given: every byte FFh. -/
def absent (width : Nat) : List Byte := List.replicate width 0xFF

/-- A field that may be absent. -/
def opt {α : Type} (width : Nat) (f : α → List Byte) : Option α → List Byte
  | some a => f a
  | none => absent width

def portByte (p : PortId) : List Byte := u8 p.val
def slotBytes (n : SlotId) : List Byte := le2 n.val
def seqByte (n : SeqId) : List Byte := u8 n.val
def tagBytes (t : Word16) : List Byte := le2 t.toNat
def crcBytes (c : Crc32) : List Byte := le4 c.toNat

/-! ## CRCs (R180) -/

/-- One bit of the CRC-16 register, most significant bit first. -/
def crc16Bit (r : BitVec 16) : BitVec 16 := if r.getLsbD 15 then (r <<< 1) ^^^ 0x1021 else r <<< 1

def crc16Byte (r : BitVec 16) (b : Byte) : BitVec 16 :=
  crc16Bit <| crc16Bit <| crc16Bit <| crc16Bit <| crc16Bit <| crc16Bit <| crc16Bit <| crc16Bit (r ^^^ (b.setWidth 16 <<< 8))

/-- CRC-16: polynomial 1021h, initial value FFFFh, no final inversion (R180). -/
def crc16 (l : List Byte) : BitVec 16 := l.foldl crc16Byte 0xFFFF

/-- One bit of the CRC-32 register, reflected. -/
def crc32Bit (r : Crc32) : Crc32 := if r.getLsbD 0 then (r >>> 1) ^^^ 0xEDB88320 else r >>> 1

def crc32Byte (r : Crc32) (b : Byte) : Crc32 :=
  crc32Bit <| crc32Bit <| crc32Bit <| crc32Bit <| crc32Bit <| crc32Bit <| crc32Bit <| crc32Bit (r ^^^ b.setWidth 32)

/-- The CRC-32 `c` of some bytes carried over further bytes: the inversion at the end is undone, the bytes enter the
register, and the result is inverted again (R180). -/
def crc32Carry (c : Crc32) (l : List Byte) : Crc32 := ~~~ (l.foldl crc32Byte (~~~ c))

/-- CRC-32 (R180); that of no bytes is 0. -/
def crc32 (l : List Byte) : Crc32 := crc32Carry 0 l

/-! ## Enumerated values, counting from 0 in the order of R174 and R175 -/

def Status.code : Status → Byte
  | .done => 0x00 | .retry => 0x01 | .unknownCommand => 0x02 | .badLength => 0x03 | .badArgument => 0x04
  | .noSession => 0x05 | .notPermitted => 0x06 | .notOwner => 0x07 | .wrongState => 0x08 | .inUse => 0x09
  | .exhausted => 0x0A | .checkFailed => 0x0B | .tagInUse => 0x0C | .libraryUnavailable => 0x0D

def PortClass.code : PortClass → Nat
  | .ordinary => 0 | .control => 1

def SlotState.code : SlotState → Nat
  | .free => 0 | .held => 1 | .filling => 2 | .loading => 3 | .ready => 4

def LastResult.code : LastResult → Nat
  | .none => 0 | .checkFailed => 1 | .flashError => 2 | .formatError => 3 | .cancelled => 4 | .abandoned => 5

def LoadResult.code : LoadResult → Nat
  | .loaded => 0 | .checkFailed => 1 | .formatError => 2 | .flashError => 3

def LibState.code : LibState → Nat
  | .absent => 0 | .scanning => 1 | .valid => 2 | .invalid => 3

def InvalidReason.code : InvalidReason → Nat
  | .none => 0 | .noAnswer => 1 | .badSignature => 2 | .badCount => 3 | .badCrc => 4

def SeqState.code : SeqState → Nat
  | .empty => 0 | .opened => 1 | .sealed => 2

def Advance.code : Advance → Nat
  | .timed => 0 | .triggerA => 1 | .triggerB => 2 | .soft => 3

def Output.code : Output → Nat
  | .idle => 0 | .running _ _ => 1 | .offering _ _ => 2 | .direct _ _ => 3 | .fallback _ _ => 4 | .halted => 5

def Phase.code : Phase → Nat
  | .staging => 0 | .waiting => 1 | .hold => 2 | .gap => 3

def HolderKind.code : HolderKind → Nat
  | .context => 0 | .fallback => 1 | .direct => 2

def FaultKind.code : FaultKind → Nat
  | .planeCheck => 0 | .linkReject => 1 | .linkTimeout => 2 | .linkDown => 3 | .triggerTimeout => 4 | .lightLimit => 5

def EndReason.code : EndReason → Nat
  | .cancelled => 0 | .playerReset => 1 | .completed => 2 | .lapsed => 3 | .preempted => 4 | .released => 5 | .fault => 6
  | .sessionEnd => 7

/-- A CONTEXT_ABORTED for a fault carries 10h plus the fault kind (R175). -/
def AbortReason.code : AbortReason → Nat
  | .ended r => r.code
  | .faulted k => 0x10 + k.code

def LinkState.code : LinkState → Nat
  | .down => 0 | .idle => 1 | .transmitting => 2 | .awaitLoaded => 3 | .awaitSwapped => 4 | .awaitBlanked => 5
  | .failed => 6

def Source.code : Source → Nat
  | .a => 0 | .b => 1 | .soft => 2

def Stage.code : Stage → Nat
  | .pending => 0 | .sending => 1 | .loaded => 2 | .swapping => 3

/-! ## Command codes (R173, "Command catalogue") -/

def Command.ofCode (c : Byte) : Option Command :=
  match c.toNat with
  | 0x01 => some .openSession | 0x02 => some .closeSession | 0x03 => some .deviceInfo
  | 0x10 => some .allocateSlot | 0x11 => some .openFill | 0x12 => some .writePlane | 0x13 => some .closeFill
  | 0x14 => some .abandonFill | 0x15 => some .freeSlot | 0x16 => some .slotStatus
  | 0x20 => some .libraryStatus | 0x21 => some .libraryEntry | 0x22 => some .rescanLibrary
  | 0x23 => some .loadPlanes | 0x24 => some .cancelLoad
  | 0x30 => some .createSequence | 0x31 => some .appendSteps | 0x32 => some .removeSteps | 0x33 => some .setRepeat
  | 0x34 => some .sealSequence | 0x35 => some .unsealSequence | 0x36 => some .deleteSequence
  | 0x37 => some .sequenceStatus | 0x38 => some .readSteps
  | 0x40 => some .submit | 0x41 => some .requestDirect | 0x42 => some .cancel | 0x43 => some .queueStatus
  | 0x44 => some .setHoldLevel
  | 0x50 => some .setFallback | 0x51 => some .clearHalt | 0x52 => some .resetPlayer | 0x53 => some .playerStatus
  | 0x60 => some .configureTriggers | 0x61 => some .trigger | 0x62 => some .triggerStatus
  | 0x70 => some .configureLights | 0x71 => some .linkStatus
  | 0x80 => some .acceptDirect | 0x81 => some .showPlane | 0x82 => some .releaseDirect
  | _ => none

/-- The block that executes a command; none for the three the port executes itself (R163, "Command catalogue"). -/
def Command.block : Command → Option Block
  | .openSession | .closeSession | .deviceInfo => none
  | .allocateSlot | .openFill | .writePlane | .closeFill | .abandonFill | .freeSlot | .slotStatus => some .store
  | .libraryStatus | .libraryEntry | .rescanLibrary | .loadPlanes | .cancelLoad => some .loader
  | .createSequence | .appendSteps | .removeSteps | .setRepeat | .sealSequence | .unsealSequence | .deleteSequence
  | .sequenceStatus | .readSteps => some .table
  | .submit | .requestDirect | .cancel | .queueStatus => some .queue
  | .setHoldLevel | .setFallback | .clearHalt | .resetPlayer | .playerStatus => some .player
  | .configureTriggers | .trigger | .triggerStatus => some .trigger
  | .configureLights => some .lights
  | .linkStatus => some .link
  | .acceptDirect | .showPlane | .releaseDirect => some .player

/-! ## Reported records (R176) -/

/-- The state of a slot by name. -/
def SlotContent.state : SlotContent → SlotState
  | .free => .free
  | .held => .held
  | .filling _ _ => .filling
  | .loading _ _ => .loading
  | .ready _ _ => .ready

/-- The origin's byte and the entry index of R175, absent unless the slot is READY (R1). -/
def SlotContent.originBytes : SlotContent → List Byte
  | .ready _ .host => u8 0 ++ absent 2
  | .ready _ (.library e) => u8 1 ++ le2 e
  | _ => absent 1 ++ absent 2

def SlotContent.crcField : SlotContent → List Byte
  | .ready c _ => crcBytes c
  | _ => absent 4

def SlotContent.progressField : SlotContent → List Byte
  | .filling n _ => le4 n
  | .loading n _ => le4 n
  | _ => absent 4

/-- The 20-byte slot record of SLOT_STATUS. -/
def slotRecord (n : SlotId) (x : Slot) : List Byte :=
  slotBytes n ++ u8 x.content.state.code ++ opt 1 portByte x.owner ++ le2 x.pins ++ x.content.crcField
    ++ x.content.originBytes ++ x.content.progressField ++ u8 x.lastResult.code ++ u8 x.mismatches ++ flag x.orphan

/-- The 8-byte sequence record of SEQUENCE_STATUS. -/
def sequenceRecord (n : SeqId) (x : Sequence) : List Byte :=
  seqByte n ++ u8 x.state.code ++ opt 1 portByte x.owner
    ++ (if x.state = .empty then absent 2 else le2 x.repeatCount) ++ u8 x.steps.length ++ u8 x.uses ++ flag x.orphan

/-- The 8-byte step record (R176). -/
def stepRecord (x : Step) : List Byte :=
  slotBytes x.slot ++ le2 x.hold ++ le2 x.gap ++ u8 x.advance.code ++ u8 (x.mask.toNat + if x.verify then 128 else 0)

/-- The 8-byte queue entry of QUEUE_STATUS and ENTRY_REMOVED. -/
def entryRecord (e : Entry) : List Byte :=
  match e.ask with
  | .play tag seq override => u8 0 ++ u8 e.level ++ portByte e.port ++ tagBytes tag ++ seqByte seq ++ le2 override
  | .direct => u8 1 ++ u8 e.level ++ portByte e.port ++ absent 2 ++ absent 1 ++ absent 2

/-- Repeats remaining; endless is FFFFh (R175). -/
def Remaining.bytes : Remaining → List Byte
  | .count n => le2 n
  | .endless => absent 2

/-- The 12-byte context record of PLAYER_STATUS. -/
def contextRecord (c : Context) : List Byte :=
  seqByte c.seq ++ opt 1 portByte c.port ++ tagBytes c.tag ++ opt 1 u8 c.level ++ u8 c.idx ++ c.remaining.bytes
    ++ opt 1 (fun ph => u8 (Phase.code ph)) c.phase ++ flag c.cut ++ le2 c.late

/-- The 9-byte fault record. -/
def faultBytes (r : FaultRecord) : List Byte :=
  u8 r.kind.code ++ u8 r.holder.code ++ opt 1 seqByte r.seq ++ opt 1 u8 r.idx ++ opt 2 slotBytes r.slot
    ++ opt 1 portByte r.port ++ opt 1 u8 r.level ++ opt 1 (fun b => [b]) r.reason

/-- A fault or halt record, all FFh when empty (R176). -/
def faultField : Option FaultRecord → List Byte := opt 9 faultBytes

/-- A holder as 4 bytes (R175). -/
def Holder.bytes : Holder → List Byte
  | .context p tag => u8 0 ++ portByte p ++ tagBytes tag
  | .fallback => u8 1 ++ absent 1 ++ absent 2
  | .direct p => u8 2 ++ portByte p ++ absent 2

/-- The staged-plane identity of LINK_STATUS (R132); holding numbers are not reported. -/
def identityBytes (i : Identity) : List Byte :=
  i.holder.who.bytes ++ u8 i.idx ++ slotBytes i.slot ++ flag i.verify ++ u8 i.stage.code

/-- The driver display (R175). -/
def Display.bytes : Display → List Byte
  | .slot n => slotBytes n
  | .dark => le2 0xFFFE
  | .unknown => le2 0xFFFD

/-- The 41-byte block of capacities, in the order of R177. -/
def capacities : List Byte :=
  u8 4 ++ le2 448 ++ le4 65536 ++ u8 32 ++ le2 1024 ++ u8 1 ++ u8 255 ++ u8 1 ++ u8 64 ++ u8 16 ++ u8 6 ++ u8 8
    ++ u8 1 ++ u8 8 ++ le2 0 ++ le2 512 ++ le2 0 ++ le2 1024 ++ le2 16 ++ le2 1008 ++ u8 16 ++ u8 4 ++ u8 16 ++ u8 2
    ++ le2 2 ++ le2 50 ++ le2 1

/-! ## Notices (R170, R174) -/

def Notice.code : Notice → Byte
  | .loadDone _ _ _ _ => 0x01
  | .libraryScanned _ _ _ => 0x02
  | .contextStarted _ _ _ _ => 0x03
  | .contextPreempted _ _ _ _ => 0x04
  | .contextResumed _ _ _ => 0x05
  | .contextCompleted _ _ => 0x06
  | .contextAborted _ _ _ _ => 0x07
  | .entryRemoved _ _ => 0x08
  | .directOffered _ => 0x09
  | .showDone _ _ => 0x0A
  | .playerFault _ => 0x0B
  | .playerHalted _ _ => 0x0C
  | .fallbackStarted _ _ => 0x0D
  | .fallbackEnded _ => 0x0E
  | .triggerOverrun _ => 0x0F
  | .linkChanged _ _ _ => 0x10
  | .directEnded _ _ _ _ => 0x11

/-- The body of a notice: the fields of the notice table in order (R170), at the widths of R175. LINK_CHANGED sends the level of
DRV_RDY as 01h for high and 00h for low (DESIGN CHOICE, notes/assumptions/35.md). -/
def Notice.body : Notice → List Byte
  | .loadDone slot result state written => slotBytes slot ++ u8 result.code ++ u8 state.code ++ le4 written
  | .libraryScanned state reason count => u8 state.code ++ u8 reason.code ++ le2 count
  | .contextStarted tag seq level count => tagBytes tag ++ seqByte seq ++ u8 level ++ le2 count
  | .contextPreempted tag idx level cut => tagBytes tag ++ u8 idx ++ u8 level ++ flag cut
  | .contextResumed tag idx cut => tagBytes tag ++ u8 idx ++ flag cut
  | .contextCompleted tag late => tagBytes tag ++ le2 late
  | .contextAborted tag reason idx late => tagBytes tag ++ u8 reason.code ++ u8 idx ++ le2 late
  | .entryRemoved reason entry => u8 reason.code ++ entryRecord entry
  | .directOffered level => u8 level ++ le2 50
  | .directEnded reason level discarded byLevel => u8 reason.code ++ u8 level ++ u8 discarded ++ opt 1 u8 byLevel
  | .showDone number slot => [number] ++ slotBytes slot
  | .playerFault record => faultBytes record
  | .playerHalted first record => faultField first ++ faultBytes record
  | .fallbackStarted seq kind => seqByte seq ++ u8 kind.code
  | .fallbackEnded reason => u8 reason.code
  | .triggerOverrun source => u8 source.code
  | .linkChanged new old drvRdy => u8 new.code ++ u8 old.code ++ flag drvRdy

/-! ## Items (R174) -/

def ItemKind.code : ItemKind → Byte
  | .empty => 0x00 | .reply => 0x01 | .notice => 0x02

/-- The 8-byte head of an item. -/
def Item.head (x : Item) : List Byte :=
  [x.kind.code, x.tag] ++ le2 x.number.toNat ++ [x.code] ++ flag x.lost ++ le2 x.body.length

/-- An item as sent: head, body and the CRC-16 over both. -/
def Item.bytes (x : Item) : List Byte :=
  x.head ++ x.body ++ le2 (crc16 (x.head ++ x.body)).toNat

/-- The EMPTY item (R167). -/
def Item.emptyItem (number : Word16) : Item :=
  { kind := .empty, tag := 0, number := number, code := 0, lost := false, body := [] }

/-! ## Plane link and flash (R23, R179) -/

/-- A plane link message as sent, given the bytes of the plane a LOAD carries. -/
def Message.bytes (plane : SlotId → List Byte) : Message → List Byte
  | .load n => 0x01 :: plane n
  | .swap => [0x02]
  | .blank => [0x03]

/-- What the 2416 sends the flash to begin a read burst: 03h and the 3-byte flash offset, low byte first (R23). -/
def Burst.command (b : Burst) : List Byte :=
  0x03 :: [BitVec.ofNat 8 b.offset, BitVec.ofNat 8 (b.offset / 256), BitVec.ofNat 8 (b.offset / 65536)]

end Sys2Proof.Machine
end

