-- ==== Sys2Proof/Machine/Operands.lean ====
section
/-! DEFINITION. Reading the fields of a request body, a step record and the library's header and entries: low byte
first, at the widths their rules give (R175, R176, R178). -/

namespace Sys2Proof.Machine

/-- The byte at an offset of a body; the rules read no byte past a length they have checked. -/
def byteAt (body : List Byte) (i : Nat) : Byte := body.getD i 0

/-- A 1-byte field. -/
def field1 (body : List Byte) (i : Nat) : Nat := (byteAt body i).toNat

/-- A 2-byte field, low byte first. -/
def field2 (body : List Byte) (i : Nat) : Nat := field1 body i + 256 * field1 body (i + 1)

/-- A 4-byte field, low byte first. -/
def field4 (body : List Byte) (i : Nat) : Nat := field2 body i + 65536 * field2 body (i + 2)

/-- A play tag at an offset. -/
def tagAt (body : List Byte) (i : Nat) : Word16 := BitVec.ofNat 16 (field2 body i)

/-- A CRC-32 at an offset. -/
def crcAt (body : List Byte) (i : Nat) : Crc32 := BitVec.ofNat 32 (field4 body i)

/-- A slot number, if it is one from 0 to 447 (R3). -/
def slotOf (n : Nat) : Option SlotId := if h : n < 448 then some ⟨n, h⟩ else none

/-- A sequence number, if it is one from 0 to 31 (R42). -/
def seqOf (n : Nat) : Option SeqId := if h : n < 32 then some ⟨n, h⟩ else none

/-- A port number, if it is one from 0 to 3. -/
def portOf (n : Nat) : Option PortId := if h : n < 4 then some ⟨n, h⟩ else none

/-- A light mask byte that names no channel above 3. -/
def maskOf (n : Nat) : Option Mask := if n < 16 then some (BitVec.ofNat 4 n) else none

/-- An enable, edge or verify byte: 0 or 1. -/
def boolOf (n : Nat) : Option Bool := if n = 0 then some false else if n = 1 then some true else none

def advanceOf (n : Nat) : Option Advance :=
  match n with
  | 0 => some .timed | 1 => some .triggerA | 2 => some .triggerB | 3 => some .soft
  | _ => none

/-- A step record at an offset, if it passes the step field checks of R44 (R176). -/
def stepAt (body : List Byte) (i : Nat) : Option Step := do
  let slot ← slotOf (field2 body i)
  let hold := field2 body (i + 2)
  let advance ← advanceOf (field1 body (i + 6))
  let mask ← maskOf (field1 body (i + 7) % 128)
  if hold = 0 then none
  else some { slot := slot, hold := hold, gap := field2 body (i + 4), advance := advance, mask := mask
              verify := decide (128 ≤ field1 body (i + 7)) }

/-- The steps of a batch of n from an offset on, or the position of the first that fails its field checks (R44). -/
def stepsFrom (body : List Byte) : Nat → Nat → Nat → Except Nat (List Step)
  | _, _, 0 => .ok []
  | i, pos, n + 1 =>
    match stepAt body i with
    | none => .error pos
    | some x =>
      match stepsFrom body (i + 8) (pos + 1) n with
      | .ok xs => .ok (x :: xs)
      | .error e => .error e

/-- A directory entry at an offset of the table (R178). -/
def dirEntryAt (table : List Byte) (i : Nat) : DirEntry :=
  { offset := field4 table i, length := field4 table (i + 4), crc := crcAt table (i + 8), form := byteAt table (i + 12)
    label := [byteAt table (i + 13), byteAt table (i + 14), byteAt table (i + 15)] }

/-- The entries of a table of n entries. -/
def dirEntries (table : List Byte) (n : Nat) : List DirEntry := (List.range n).map fun i => dirEntryAt table (16 * i)

end Sys2Proof.Machine
end

