-- ==== Sys2Proof/Machine/Ops.lean ====
section
/-! DEFINITION. The operations every block's meanings share: the plane memory, reading and writing one record of a bank,
handing replies and notices to ports, taking a request, and the passing of time. -/

namespace Sys2Proof.Machine

/-! ## Plane memory -/

/-- Cells in rising address order, none holding what an unlisted address reads as. -/
abbrev Memory := List Host.Cell

/-- What an address no write has listed reads as (DESIGN CHOICE, notes/assumptions/8.md). -/
def unlistedByte : Byte := 0

/-- The byte at an address. -/
def memRead (m : Memory) (a : Nat) : Byte := (m.lookup a).getD unlistedByte

/-- The cells of a run of bytes from an address on, leaving out those equal to the unlisted byte. -/
def cellsFrom : Nat → List Byte → Memory
  | _, [] => []
  | a, b :: bs => if b = unlistedByte then cellsFrom (a + 1) bs else (a, b) :: cellsFrom (a + 1) bs

/-- Writes a run of bytes from an address on. -/
def memWrite (a : Nat) (bytes : List Byte) (m : Memory) : Memory :=
  m.filter (fun c => c.1 < a) ++ cellsFrom a bytes ++ m.filter (fun c => a + bytes.length ≤ c.1)

/-- The canonical form: addresses strictly rising, no cell equal to the unlisted byte. -/
abbrev Memory.wf (m : Memory) : Prop := m.Pairwise (fun x y => x.1 < y.1) ∧ ∀ c ∈ m, c.2 ≠ unlistedByte

/-- The address of a slot's byte at an offset. -/
def planeAddr (n : SlotId) (offset : Nat) : Nat := n.val * Config.planeBytes + offset

/-- The 65,536 bytes of a slot in offset order (R17). -/
def planeData (m : Memory) (n : SlotId) : List Byte :=
  (List.range Config.planeBytes).map fun o => memRead m (planeAddr n o)

/-! ## Records of the banks -/

/-- Applies a change to every record of a bank. -/
def mapBank {α β : Type} {n : Nat} (f : α → β) (v : Vector α n) : Vector β n := ⟨⟨v.toList.map f⟩, by simp⟩

def State.port (s : State) (p : PortId) : Port := s.ports[p]
def State.setPort (s : State) (p : PortId) (x : Port) : State := { s with ports := s.ports.set p.val x p.isLt }

def State.slot (s : State) (n : SlotId) : Slot := s.slots[n]
def State.setSlot (s : State) (n : SlotId) (x : Slot) : State := { s with slots := s.slots.set n.val x n.isLt }

def State.seq (s : State) (n : SeqId) : Sequence := s.seqs[n]
def State.setSeq (s : State) (n : SeqId) (x : Sequence) : State := { s with seqs := s.seqs.set n.val x n.isLt }

def State.light (s : State) (c : ChannelId) : Light := s.lights[c]
def State.setLight (s : State) (c : ChannelId) (x : Light) : State := { s with lights := s.lights.set c.val x c.isLt }

/-! ## Pins the part drives -/

/-- ATNn_n asserted (low): the outbound queue is not empty, and neither reset line of the port is low (R150). -/
def State.attention (s : State) (p : PortId) : Bool :=
  !(s.port p).outbound.isEmpty && !(s.port p).prstLow && !s.resetLow

/-- SDOn, byte by byte: what port p sends in byte i of the transaction in progress, or of the latest one when none is. Byte 0 is
clocked with the direction byte. A READ or READ_AGAIN sends what the port has fixed, and every other transaction, one of another
direction byte included, 00h throughout (R145, R147, R148). -/
def State.sdOut (s : State) (p : PortId) : Nat → Byte
  | 0 => 0
  | i + 1 =>
    match (s.port p).txn with
    | some (.reading _ status item) => (status :: item.bytes).getD i 0
    | _ => (s.port p).sdo.getD i 0

/-- SYNC_OUT high (R115). -/
def State.syncOut (s : State) : Bool := s.trig.sync.isSome

/-- LGTn (R129). -/
def State.lgt (s : State) (c : ChannelId) : Bool := (s.light c).on

/-- FL_CS_n low: a read burst is in progress (R23). -/
def State.flashSelected (s : State) : Bool := s.lib.burst.isSome

/-- The level of DRV_RDY: low exactly while the link is DOWN (R119, R120). -/
def Link.drvRdy (l : Link) : Bool := l.state != .down

/-! ## Replies and notices on their way to a port (R158, R164, R170) -/

/-- A block hands a port a reply or a notice. -/
def State.hand (s : State) (p : PortId) (x : Handed) : State :=
  s.setPort p { s.port p with inbox := (s.port p).inbox ++ [x] }

/-- A block hands a port a notice. -/
def State.notify (s : State) (p : PortId) (n : Notice) : State := s.hand p (.notice n)

/-- A block hands a notice to every port of class CONTROL, which each judges by its own session (R170). -/
def State.notifyControl (s : State) (n : Notice) : State :=
  let give := fun (q : Port) => if q.cls = .control then { q with inbox := q.inbox ++ [.notice n] } else q
  { s with ports := mapBank give s.ports }

/-- What a block answers a request with. -/
structure Answer where
  status : Status
  body : List Byte
  deriving DecidableEq, Repr

/-- The block that executes port p's request hands the port its reply (R164). -/
def State.reply (s : State) (p : PortId) (a : Answer) : State :=
  s.setPort p { s.port p with
    inExec := (s.port p).inExec.map fun e => { e with place := .answered }
    inbox := (s.port p).inbox ++ [.reply a.status a.body] }

/-- A request refused with a status and an empty body: nothing changes (R165). -/
def refuse (st : Status) (s : State) : State × Answer := (s, { status := st, body := [] })

/-- A request refused with a status and a body. -/
def refuseWith (st : Status) (body : List Byte) (s : State) : State × Answer := (s, { status := st, body := body })

/-- A request done. -/
def done (body : List Byte) (s : State) : State × Answer := (s, { status := .done, body := body })

/-! ## Taking a request (R154, R157, R163) -/

/-- A block may take port p's request only when every announcement of p it has not yet taken ended the very session the
request was handed under: the end of a session is taken before any request of the next (R157). -/
def State.announced (s : State) (b : Block) (p : PortId) (session : Word16) : Bool :=
  s.announcements.all fun x => !(x.block == b && x.port == p) || x.session == session

/-- The block that acts on a request at a place. -/
def Place.block : Place → Option Block
  | .atBlock b => some b
  | .passedCancel | .passedFallback => some .player
  | .answered => none

/-- The block at a place may take port p's request (R157). The announcements that another block has yet to take do not hold up
what this block asks of that block to serve the request (DESIGN CHOICE, notes/assumptions/37.md). -/
def State.mayTake (s : State) (p : PortId) (e : InExec) : Bool :=
  match e.place.block with
  | some b => s.announced b p e.session
  | none => false

/-- Port p's request in execution, if it is the command given and stands at the place given, and its block may take it. -/
def State.request (s : State) (p : PortId) (cmd : Command) (place : Place) : Option InExec :=
  match (s.port p).inExec with
  | none => none
  | some e =>
    if Command.ofCode e.code = some cmd ∧ e.place = place ∧ s.mayTake p e = true then some e else none

/-- The session under which the request was handed has ended (R154). -/
def State.sessionEnded (s : State) (p : PortId) (e : InExec) : Bool :=
  !(s.port p).sessionOpen || (s.port p).sessionNo != e.session

/-- A block takes port p's request: it answers NO_SESSION when the session has ended (R154), else executes it, hands the
reply, and, when the request was DONE, goes on with what its rule places after the reply. With no such request standing
there the command has no occasion and changes nothing (notes/assumptions/5.md). -/
def serveAt (cmd : Command) (place : Place) (p : PortId) (act : List Byte → State → State × Answer)
    (follow : State → State) (s : State) : State :=
  match s.request p cmd place with
  | none => s
  | some e =>
    if s.sessionEnded p e then s.reply p { status := .noSession, body := [] }
    else
      let r := act e.body s
      let t := r.1.reply p r.2
      if r.2.status = .done then follow t else t

/-- `serveAt` for a request at the block its command belongs to. -/
def serve (cmd : Command) (p : PortId) (act : List Byte → State → State × Answer) (s : State) : State :=
  match cmd.block with
  | none => s
  | some b => serveAt cmd (.atBlock b) p act id s

/-- `serve` with what follows the reply. -/
def serveThen (cmd : Command) (p : PortId) (act : List Byte → State → State × Answer) (follow : State → State)
    (s : State) : State :=
  match cmd.block with
  | none => s
  | some b => serveAt cmd (.atBlock b) p act follow s

/-- A request whose body must be of one length (R165, BAD_LENGTH). -/
def ofLength (n : Nat) (act : List Byte → State → State × Answer) (body : List Byte) (s : State) : State × Answer :=
  if body.length = n then act body s else refuse .badLength s

/-- A request reserved for CONTROL ports (R172). -/
def controlOnly (p : PortId) (act : List Byte → State → State × Answer) (body : List Byte) (s : State) :
    State × Answer :=
  if (s.port p).cls = .control then act body s else refuse .notPermitted s

/-! ## Session-end announcements (R157) -/

/-- A block takes the oldest announcement of port p handed to it; none waiting, the command has no occasion. -/
def takeAnnouncement (b : Block) (p : PortId) (act : State → State) (s : State) : State :=
  match s.announcements.find? (fun x => x.block == b && x.port == p) with
  | none => s
  | some x => act { s with announcements := s.announcements.erase x }

/-! ## Time -/

/-- A timer after d µs: time left, never below 0. A stopped timer stays stopped. -/
def timerAfter (d : Nat) (t : Option Nat) : Option Nat := t.map fun r => r - d

def Output.after (d : Nat) : Output → Output
  | .offering n o => .offering n { o with window := timerAfter d o.window }
  | .direct n x => .direct n { x with timer := timerAfter d x.timer }
  | o => o

def Light.after (d : Nat) (x : Light) : Light := if x.on then { x with onTime := x.onTime + d } else x

/-- d µs pass: every running timer has that much less left, and every lit channel has been on that much longer. -/
def State.elapse (s : State) (d : Nat) : State :=
  { s with
    player := { s.player with
      out := s.player.out.after d
      holdTimer := timerAfter d s.player.holdTimer
      gapTimer := timerAfter d s.player.gapTimer }
    trig := { s.trig with
      wait := s.trig.wait.map fun w => { w with timer := timerAfter d w.timer }
      sync := timerAfter d s.trig.sync }
    link := { s.link with timer := timerAfter d s.link.timer }
    lights := mapBank (fun x => x.after d) s.lights
    lib := { s.lib with burst := s.lib.burst.map fun b => { b with timer := timerAfter d b.timer } } }

/-- The expiry of a timer: the time it has left passes, and its rule is applied. A stopped timer does not expire
(notes/assumptions/4.md and 5.md). -/
def expire (t : Option Nat) (act : State → State) (s : State) : State :=
  match t with
  | none => s
  | some d => act (s.elapse d)

end Sys2Proof.Machine
end

