-- ==== Sys2Proof/Machine/Flags.lean ====
section
/-! DEFINITION. The port status byte and the flags it reports (R149, R174). -/

namespace Sys2Proof.Machine

/-- The port status byte, given the more-items flag (R174). -/
def Port.statusByte (q : Port) (more : Bool) : Byte :=
  BitVec.ofNat 8 (q.outstanding % 8 + (if more then 8 else 0) + (if q.rejected then 16 else 0)
    + (if q.badFrame then 32 else 0) + (if q.sessionOpen then 64 else 0))

/-- The more-items flag: an item other than the one this transaction sends is queued; for READ_AGAIN, any item (R149). -/
def Port.moreItems (q : Port) : ReadKind → Bool
  | .read => decide (1 < q.outbound.length)
  | .readAgain => !q.outbound.isEmpty

/-- The rejected-frame and bad-frame flags are cleared once a READ or READ_AGAIN has reported them (R147, R148). -/
def Port.reported (q : Port) (clocked : Nat) : Port :=
  if 1 ≤ clocked then { q with rejected := false, badFrame := false } else q

end Sys2Proof.Machine
end

