-- ==== Sys2Proof/Machine/Ports.lean ====
section
/-! DEFINITION. The host ports: transactions, request frames and their acceptance, the start of requests, the arrival of
replies and notices, sessions, and the two resets of a port (spec/09_host_ports_and_sessions.md,
spec/10_message_protocol_and_replies.md). -/

namespace Sys2Proof.Machine

/-! ## The outbound queue (R167, R168, R169) -/

/-- A reply joins the outbound queue and takes the next item number. -/
def Port.joinReply (q : Port) (tag : Byte) (st : Status) (body : List Byte) : Port :=
  { q with
    outbound := q.outbound ++
      [{ kind := .reply, tag := tag, number := q.nextNumber, code := st.code, lost := false, body := body }]
    nextNumber := q.nextNumber + 1 }

/-- The notices in the outbound queue. -/
def Port.noticeCount (q : Port) : Nat := q.outbound.countP fun x => x.kind == .notice

/-- The port takes a notice: discarded without a session, dropped under the lost-notice mark when 16 are queued, and
otherwise queued with the mark it clears (R158, R169). -/
def Port.takeNotice (q : Port) (n : Notice) : Port :=
  if !q.sessionOpen then q
  else if Config.maxNotices ≤ q.noticeCount then { q with lostMark := true }
  else
    { q with
      outbound := q.outbound ++
        [{ kind := .notice, tag := 0, number := q.nextNumber, code := n.code, lost := q.lostMark, body := n.body }]
      nextNumber := q.nextNumber + 1
      lostMark := false }

/-! ## Request frames (R160, R161, R162, R173) -/

/-- The frame checks of R160, in order; a good frame as the request it carries, not yet judged for its tag. -/
def checkFrame (bytes : List Byte) : Option Request :=
  let n := field2 bytes 3
  if byteAt bytes 0 = 0xA5 ∧ 5 ≤ bytes.length ∧ n ≤ Config.maxBody ∧ bytes.length = n + 7 ∧ byteAt bytes 1 ≠ 0
      ∧ BitVec.ofNat 16 (field2 bytes (5 + n)) = crc16 ((bytes.drop 1).take (4 + n)) then
    some { tag := byteAt bytes 1, code := byteAt bytes 2, body := (bytes.drop 5).take n, duplicate := false }
  else none

/-- The tags of the requests outstanding at the port (R162). -/
def Port.outstandingTags (q : Port) : List Byte :=
  q.inbound.map Request.tag
    ++ (match q.inExec with | some e => if q.stale then [] else [e.tag] | none => [])
    ++ (q.outbound.filter fun x => x.kind == .reply).map Item.tag

/-! ## The start of requests (R163) -/

/-- Requests of the list start in turn: the port answers duplicates, unknown commands and requests without a session
itself, and goes on until a request is handed to its block, or one the port executes itself stands at the head. -/
def Port.startFrom (q : Port) : List Request → Port
  | [] => { q with inbound := [] }
  | r :: rest =>
    if r.duplicate then (q.joinReply r.tag .tagInUse []).startFrom rest
    else
      match Command.ofCode r.code with
      | none => (q.joinReply r.tag .unknownCommand []).startFrom rest
      | some cmd =>
        match cmd.block with
        | none => { q with inbound := r :: rest }
        | some b =>
          if q.sessionOpen then
            { q with
              inbound := rest
              inExec := some
                { tag := r.tag, code := r.code, body := r.body, session := q.sessionNo, place := .atBlock b } }
          else (q.joinReply r.tag .noSession []).startFrom rest

/-- The oldest request starts when none is in execution, a stale one included (R154, R163). -/
def Port.start (q : Port) : Port := if q.inExec.isSome then q else q.startFrom q.inbound

/-- Acceptance of a good frame (R161, R162): the request joins the inbound list and may start; at a full port the frame is
rejected. -/
def Port.accept (q : Port) (r : Request) : Port :=
  if q.outstanding < Config.maxOutstanding then
    { q with
      inbound := q.inbound ++ [{ r with duplicate := q.outstandingTags.contains r.tag }]
      outstanding := q.outstanding + 1 }.start
  else { q with rejected := true }

/-! ## Sessions (R155, R156, R157) -/

/-- The blocks a session-end announcement is handed to (R157). -/
def announcedBlocks : List Block := [.store, .loader, .table, .queue, .player]

/-- The session of port p ends: it becomes CLOSED and the announcement goes to the five blocks. -/
def State.endSession (s : State) (p : PortId) : State :=
  { s.setPort p { s.port p with sessionOpen := false } with
    announcements := s.announcements ++
      announcedBlocks.map fun b => { block := b, port := p, session := (s.port p).sessionNo } }

/-- The request of a command the port executes itself, when it is next to start, with the requests behind it. -/
def Port.ownRequest (q : Port) (cmd : Command) : Option (Request × List Request) :=
  match q.inExec, q.inbound with
  | none, r :: rest => if r.duplicate = false ∧ Command.ofCode r.code = some cmd then some (r, rest) else none
  | _, _ => none

/-- The port executes its own request: `act` changes the state and gives the reply, which joins the queue, and the next
request may start (R163). `act` sees the request gone from the inbound list. -/
def ownCommand (cmd : Command) (p : PortId) (act : List Byte → State → State × Answer) (s : State) : State :=
  match (s.port p).ownRequest cmd with
  | none => s
  | some (r, rest) =>
    let x := act r.body (s.setPort p { s.port p with inbound := rest })
    x.1.setPort p ((x.1.port p).joinReply r.tag x.2.status x.2.body).start

/-- OPEN_SESSION (R155). The session number is sent as 2 bytes (DEDUCED from its range, notes/assumptions/19.md). -/
def openSession (p : PortId) (body : List Byte) (s : State) : State × Answer :=
  let q := s.port p
  if body.length ≠ 0 then refuse .badLength s
  else if q.sessionOpen then refuse .wrongState s
  else
    let number := q.sessionNo + 1
    done (portByte p ++ u8 q.cls.code ++ tagBytes number ++ capacities)
      (s.setPort p { q with sessionOpen := true, sessionNo := number })

/-- CLOSE_SESSION (R156). -/
def closeSession (p : PortId) (body : List Byte) (s : State) : State × Answer :=
  if body.length ≠ 0 then refuse .badLength s
  else if (s.port p).sessionOpen then done [] (s.endSession p)
  else refuse .noSession s

/-- DEVICE_INFO (R159): part code 2416, silicon revision 1. The session state is sent as 0 for CLOSED and 1 for OPEN, and
the session number as 2 bytes (DEDUCED, notes/assumptions/19.md). -/
def deviceInfo (p : PortId) (body : List Byte) (s : State) : State × Answer :=
  let q := s.port p
  if body.length ≠ 0 then refuse .badLength s
  else
    done (le2 2416 ++ u8 1 ++ portByte p ++ u8 q.cls.code ++ flag q.sessionOpen ++ tagBytes q.sessionNo ++ capacities) s

/-! ## Transactions (R145 to R148) -/

/-- The port takes transactions: neither of its reset lines is low (R145). -/
def State.portListens (s : State) (p : PortId) : Bool := !s.resetLow && !(s.port p).prstLow

/-- The transaction a direction byte begins; any other value begins none that the port takes (R145, R173). -/
def Direction.ofByte (b : Byte) : Option Direction :=
  match b.toNat with
  | 0x01 => some .write
  | 0x02 => some .read
  | 0x03 => some .readAgain
  | 0x0F => some .portReset
  | _ => none

/-- The direction of a transaction in progress. -/
def Txn.direction : Txn → Direction
  | .write => .write
  | .portReset => .portReset
  | .reading .read _ _ => .read
  | .reading .readAgain _ _ => .readAgain
  | .ignored d => d

/-- A transaction that is ignored from here to its rise (R145, R151). -/
def Txn.ended (t : Txn) : Txn := .ignored t.direction

/-- The rise of a transaction that is ignored: nothing else changes, and the port has sent 00h throughout it (R145). -/
def Port.ignore (q : Port) (clocked : Nat) : Port := { q with txn := none, sdo := List.replicate clocked 0 }

/-- The rise of chip-select that ends a transaction of port p, with the bytes clocked after the direction byte: it is taken
whole, unless a reset line is low or it is ignored already (R145). With no direction byte given before it, the transaction is
a whole one that begins here too; the rise of another transaction than the one in progress does not occur
(notes/assumptions/10.md). -/
def takeRise (p : PortId) (d : Direction) (clocked : Nat) (act : State → State) (s : State) : State :=
  match (s.port p).txn with
  | some (.ignored d') => if d' = d then s.setPort p ((s.port p).ignore clocked) else s
  | some t =>
    if t.direction = d then if s.portListens p then act s else s.setPort p ((s.port p).ignore clocked) else s
  | none => if s.portListens p then act s else s.setPort p ((s.port p).ignore clocked)

/-- The bytes of an item on the wire. -/
def Item.size (x : Item) : Nat := x.body.length + 10

/-- What the port sends after the direction byte of a READ or READ_AGAIN over the number of bytes clocked: the status byte,
the item, then 00h. -/
def sentBytes (status : Byte) (item : Item) (clocked : Nat) : List Byte :=
  (status :: item.bytes).take clocked ++ List.replicate (clocked - (item.size + 1)) 0

/-- The item a READ or READ_AGAIN sends (R147, R148). -/
def Port.pick (q : Port) : ReadKind → Item
  | .read => q.outbound.head?.getD (Item.emptyItem q.nextNumber)
  | .readAgain => q.lastDelivered.getD (Item.emptyItem q.nextNumber)

/-- What a READ or READ_AGAIN sends: as fixed at the end of its direction byte (R147), or now, for a whole transaction. -/
def Port.fixed (q : Port) (kind : ReadKind) : Byte × Item :=
  match q.txn with
  | some (.reading _ status item) => (status, item)
  | _ => (q.statusByte (q.moreItems kind), q.pick kind)

/-- The port has sent 00h while the direction byte was clocked, and nothing yet after it (R145). -/
def Port.directionSent (q : Port) : Port := { q with sdo := [] }

/-- The end of the direction byte of a transaction the port takes: for a READ or READ_AGAIN the port forms the status byte
and fixes the item it will send (R147, R148, R149). -/
def Port.begin (q : Port) (d : Direction) : Port :=
  { q.directionSent with txn := some (match d with
    | .write => .write
    | .portReset => .portReset
    | .read => .reading .read (q.statusByte (q.moreItems .read)) (q.pick .read)
    | .readAgain => .reading .readAgain (q.statusByte (q.moreItems .readAgain)) (q.pick .readAgain)) }

/-- An item leaves the outbound queue by a READ that clocked every byte of it (R147). -/
def Port.deliver (q : Port) (x : Item) : Port :=
  { q with
    outbound := q.outbound.tail
    lastDelivered := some x
    outstanding := if x.kind = .reply then q.outstanding - 1 else q.outstanding }

/-- The rise of chip-select that ends a READ_AGAIN (R148). -/
def Port.endReadAgain (q : Port) (x : Byte × Item) (clocked : Nat) : Port :=
  { q.reported clocked with txn := none, sdo := sentBytes x.1 x.2 clocked }

/-- The rise of chip-select that ends a READ (R147). -/
def Port.endRead (q : Port) (x : Byte × Item) (clocked : Nat) : Port :=
  let q := q.endReadAgain x clocked
  if x.2.kind ≠ .empty ∧ x.2.size + 1 ≤ clocked then q.deliver x.2 else q

/-- The rise of chip-select that ends a WRITE (R146, R160, R161, R163). -/
def Port.endWrite (q : Port) (bytes : List Byte) : Port :=
  let q := q.ignore bytes.length
  match checkFrame bytes with
  | none => { q with badFrame := true }
  | some r => q.accept r

/-- A port reset (R151, R168): the session ends, both queues are emptied, the count, flags, marks and item number are
cleared, a transaction in progress is ended and ignored, and a request in execution is stale. -/
def portReset (p : PortId) (s : State) : State :=
  let s := if (s.port p).sessionOpen then s.endSession p else s
  let q := s.port p
  s.setPort p { q with
    inbound := [], outbound := [], outstanding := 0, rejected := false, badFrame := false, lostMark := false
    lastDelivered := none, nextNumber := 0, stale := q.inExec.isSome, txn := q.txn.map Txn.ended }

/-! ## Arrivals (R158, R164) -/

/-- The port takes the reply of its request in execution: it queues it, or discards it under the stale mark, and the next
request may start (R158). -/
def Port.takeReply (q : Port) (st : Status) (body : List Byte) : Port :=
  match q.inExec with
  | none => q
  | some e =>
    if q.stale then { q with stale := false, inExec := none }.start
    else ({ q with inExec := none }.joinReply e.tag st body).start

/-! ## Meanings -/

def execWrite (p : PortId) (bytes : List Byte) (s : State) : Result :=
  .next (takeRise p .write bytes.length (fun s => s.setPort p ((s.port p).endWrite bytes)) s)

def execRead (p : PortId) (clocked : Nat) (s : State) : Result :=
  .next (takeRise p .read clocked (fun s => s.setPort p ((s.port p).endRead ((s.port p).fixed .read) clocked)) s)

def execReadAgain (p : PortId) (clocked : Nat) (s : State) : Result :=
  .next (takeRise p .readAgain clocked
    (fun s => s.setPort p ((s.port p).endReadAgain ((s.port p).fixed .readAgain) clocked)) s)

/-- DIRECTION_BYTE_END (R145, R147): a transaction that began while a reset line was low, or whose direction byte ends while
one is low, is ignored to its rise; one of another direction byte is ignored too, and as no row is its rise, it leaves nothing
but the 00h the port sends throughout it. A transaction in progress has had its direction byte. -/
def execDirectionByteEnd (p : PortId) (first : DirectionByte) (s : State) : Result :=
  let q := s.port p
  .next (if q.txn.isSome then s
    else s.setPort p (match Direction.ofByte first.value with
      | some d =>
        if s.portListens p = true ∧ first.begunLow = false then q.begin d
        else { q.directionSent with txn := some (.ignored d) }
      | none => q.directionSent))

/-- PORT_RESET (R151): taken at the rise of its chip-select. The port sends 00h throughout it (R145), so no byte is listed. -/
def execPortReset (p : PortId) (s : State) : Result :=
  .next (takeRise p .portReset 0
    (fun s =>
      let t := portReset p s
      t.setPort p ((t.port p).ignore 0)) s)

/-- PRST_FALL (R151). -/
def execPrstFall (p : PortId) (s : State) : Result :=
  .next (if (s.port p).prstLow then s
    else
      let t := portReset p s
      t.setPort p { t.port p with prstLow := true })

/-- PRST_RISE (R151): the port takes transactions again. -/
def execPrstRise (p : PortId) (s : State) : Result := .next (s.setPort p { s.port p with prstLow := false })

/-- REPLY_ARRIVAL (R158): the port takes what it was handed first, when that is a reply. -/
def execReplyArrival (p : PortId) (s : State) : Result :=
  .next (match (s.port p).inbox with
    | .reply st body :: rest => s.setPort p ({ s.port p with inbox := rest }.takeReply st body)
    | _ => s)

/-- NOTICE_ARRIVAL (R158, R169): the port takes what it was handed first, when that is a notice. -/
def execNoticeArrival (p : PortId) (s : State) : Result :=
  .next (match (s.port p).inbox with
    | .notice n :: rest => s.setPort p ({ s.port p with inbox := rest }.takeNotice n)
    | _ => s)

def execOpenSession (p : PortId) (s : State) : Result := .next (ownCommand .openSession p (openSession p) s)

def execCloseSession (p : PortId) (s : State) : Result := .next (ownCommand .closeSession p (closeSession p) s)

def execDeviceInfo (p : PortId) (s : State) : Result := .next (ownCommand .deviceInfo p (deviceInfo p) s)

end Sys2Proof.Machine
end

