-- ==== Sys2Proof/Machine/PlaneStore.lean ====
section
/-! DEFINITION. The plane store: slots, fills, pins, loads as the store sees them, session end and reporting
(spec/01_the_plane_store.md). -/

namespace Sys2Proof.Machine

/-! ## Pins (R11, R12, R13) -/

/-- The slot is READY. -/
def Slot.isReady (x : Slot) : Bool := x.content.state == .ready

/-- One more reference to a slot. -/
def pinOne (s : State) (n : SlotId) : State := s.setSlot n { s.slot n with pins := (s.slot n).pins + 1 }

/-- One reference fewer. -/
def unpinOne (s : State) (n : SlotId) : State := s.setSlot n { s.slot n with pins := (s.slot n).pins - 1 }

/-- An orphan whose last reference has gone becomes FREE (R13). -/
def freeOrphan (s : State) (n : SlotId) : State :=
  if (s.slot n).pins = 0 ∧ (s.slot n).orphan = true then s.setSlot n Slot.free else s

/-- A pin raise, taken whole: every slot of the list is pinned as often as it is named, or the position of the first that
is not READY is answered and nothing changes (R12). -/
def pinRaise (l : List SlotId) (s : State) : Except Nat State :=
  match l.findIdx? (fun n => !(s.slot n).isReady) with
  | some i => .error i
  | none => .ok (l.foldl pinOne s)

/-- A pin release, taken whole: each slot loses as many pins as it is named, and then each orphan named whose count is 0
becomes FREE (R13). -/
def pinRelease (l : List SlotId) (s : State) : State := l.foldl freeOrphan (l.foldl unpinOne s)

/-! ## Loads (R14, R15, R16) -/

/-- Why a load claim fails on a slot, if it does (R14). -/
def claimFault (p : PortId) (x : Slot) : Option Status :=
  if x.owner ≠ some p then some .notOwner
  else
    match x.content with
    | .filling _ _ | .loading _ _ => some .inUse
    | .ready _ _ => if 0 < x.pins then some .inUse else none
    | _ => none

/-- The first slot of a claim that fails, with its position. -/
def firstClaimFault (s : State) (p : PortId) : Nat → List SlotId → Option (Nat × Status)
  | _, [] => none
  | i, n :: rest =>
    match claimFault p (s.slot n) with
    | some st => some (i, st)
    | none => firstClaimFault s p (i + 1) rest

/-- A claimed slot becomes LOADING from the start; its mismatch count becomes 0 and its last result is kept until the
load ends (R2, R14). -/
def claimOne (s : State) (n : SlotId) : State :=
  s.setSlot n { s.slot n with content := .loading 0 0, mismatches := 0 }

/-- A load claim, taken whole (R14). -/
def loadClaim (p : PortId) (l : List SlotId) (s : State) : Except (Nat × Status) State :=
  match firstClaimFault s p 0 l with
  | some e => .error e
  | none => .ok (l.foldl claimOne s)

/-- A load write at the slot's progress; discarded when the slot is no longer LOADING (R15). -/
def loadWrite (n : SlotId) (bytes : List Byte) (s : State) : State :=
  match (s.slot n).content with
  | .loading progress crc =>
    { s.setSlot n { s.slot n with content := .loading (progress + bytes.length) (crc32Carry crc bytes) } with
      planeMem := memWrite (planeAddr n progress) bytes s.planeMem }
  | _ => s

/-- The results a load ending carries (R16). -/
inductive LoadEnding where
  | complete (crc : Crc32) (entry : Nat)
  | formatError
  | flashError
  | cancelled
  | sessionEnded
  deriving DecidableEq, Repr

/-- A slot left HELD with a last result (R2). -/
def Slot.heldWith (x : Slot) (r : LastResult) : Slot := { x with content := .held, lastResult := r, mismatches := 0 }

/-- A slot that becomes READY: last result NONE and mismatch count 0 (R2, R8, R16). -/
def Slot.readyWith (x : Slot) (crc : Crc32) (origin : Origin) : Slot :=
  { x with content := .ready crc origin, lastResult := .none, mismatches := 0 }

/-- What a load ending makes of a LOADING slot with the running CRC given (R16). -/
def Slot.endLoad (x : Slot) (running : Crc32) (e : LoadEnding) : Slot :=
  if x.owner = none then Slot.free
  else
    match e with
    | .complete crc entry =>
      if running = crc then x.readyWith running (.library entry) else x.heldWith .checkFailed
    | .formatError => x.heldWith .formatError
    | .flashError => x.heldWith .flashError
    | .cancelled => x.heldWith .cancelled
    | .sessionEnded => Slot.free

/-- A load ending: the slot changes, and its new state is answered by reading it (R16). -/
def loadEnding (n : SlotId) (e : LoadEnding) (s : State) : State :=
  match (s.slot n).content with
  | .loading _ crc => s.setSlot n ((s.slot n).endLoad crc e)
  | _ => s

/-! ## The plane link's reads and reports (R17) -/

/-- The content CRC the store hands with a data read; absent when the slot is not READY. -/
def Slot.contentCrc (x : Slot) : Option Crc32 :=
  match x.content with
  | .ready c _ => some c
  | _ => none

/-- A mismatch report raises the count of a READY slot by 1, saturating at 255 (R17). -/
def mismatchReport (n : SlotId) (s : State) : State :=
  if (s.slot n).isReady then s.setSlot n { s.slot n with mismatches := min 255 ((s.slot n).mismatches + 1) } else s

/-! ## Host requests (R3 to R10, R20) -/

/-- The slot number and owner checks of an owner-only request (R3). -/
def ownedSlot (p : PortId) (number : Nat) (act : SlotId → State → State × Answer) (s : State) : State × Answer :=
  match slotOf number with
  | none => refuse .badArgument s
  | some n => if (s.slot n).owner = some p then act n s else refuse .notOwner s

/-- A FREE slot claimed for a port (R4). -/
def claimFree (p : PortId) (n : SlotId) (s : State) : State × Answer :=
  done (slotBytes n) (s.setSlot n { Slot.free with content := .held, owner := some p })

/-- ALLOCATE_SLOT (R4, R5). -/
def allocateSlot (p : PortId) : List Byte → State → State × Answer := ofLength 2 fun body s =>
  if field2 body 0 = 0xFFFF then
    match (List.finRange 448).find? (fun n => (s.slot n).content == .free) with
    | some n => claimFree p n s
    | none => refuse .exhausted s
  else
    match slotOf (field2 body 0) with
    | none => refuse .badArgument s
    | some n => if (s.slot n).content = .free then claimFree p n s else refuse .inUse s

/-- OPEN_FILL (R6). -/
def openFill (p : PortId) : List Byte → State → State × Answer := ofLength 2 fun body =>
  ownedSlot p (field2 body 0) fun n s =>
    let x := s.slot n
    let filled := s.setSlot n { x with content := .filling 0 0, mismatches := 0 }
    match x.content with
    | .held => done [] filled
    | .ready _ _ => if 0 < x.pins then refuse .inUse s else done [] filled
    | _ => refuse .wrongState s

/-- WRITE_PLANE (R7): whole or not at all; the progress is the body of DONE and of a refusal on the offset. -/
def writePlane (p : PortId) (body : List Byte) (s : State) : State × Answer :=
  let len := body.length - 6
  if 16 ≤ len ∧ len ≤ 1008 ∧ len % 16 = 0 then
    ownedSlot p (field2 body 0) (fun n s =>
      match (s.slot n).content with
      | .filling progress crc =>
        if field4 body 2 = progress ∧ progress + len ≤ Config.planeBytes then
          done (le4 (progress + len))
            { s.setSlot n { s.slot n with content := .filling (progress + len) (crc32Carry crc (body.drop 6)) } with
              planeMem := memWrite (planeAddr n progress) (body.drop 6) s.planeMem }
        else refuseWith .badArgument (le4 progress) s
      | _ => refuse .wrongState s) s
  else refuse .badLength s

/-- CLOSE_FILL (R8). -/
def closeFill (p : PortId) : List Byte → State → State × Answer := ofLength 6 fun body =>
  ownedSlot p (field2 body 0) fun n s =>
    match (s.slot n).content with
    | .filling progress crc =>
      if progress = Config.planeBytes then
        if crc = crcAt body 2 then done (crcBytes crc) (s.setSlot n ((s.slot n).readyWith crc .host))
        else refuseWith .checkFailed (crcBytes crc) (s.setSlot n ((s.slot n).heldWith .checkFailed))
      else refuse .wrongState s
    | _ => refuse .wrongState s

/-- ABANDON_FILL (R9). -/
def abandonFill (p : PortId) : List Byte → State → State × Answer := ofLength 2 fun body =>
  ownedSlot p (field2 body 0) fun n s =>
    match (s.slot n).content with
    | .filling _ _ => done [] (s.setSlot n ((s.slot n).heldWith .abandoned))
    | _ => refuse .wrongState s

/-- FREE_SLOT (R10). -/
def freeSlot (p : PortId) : List Byte → State → State × Answer := ofLength 2 fun body =>
  ownedSlot p (field2 body 0) fun n s =>
    match (s.slot n).content with
    | .loading _ _ => refuse .inUse s
    | .ready _ _ => if 0 < (s.slot n).pins then refuse .inUse s else done [] (s.setSlot n Slot.free)
    | _ => done [] (s.setSlot n Slot.free)

/-- The records of a run of slots (R20). -/
def slotRun (s : State) (first count : Nat) : List Byte :=
  ((List.range count).filterMap fun i => (slotOf (first + i)).map fun n => slotRecord n (s.slot n)).flatten

/-- SLOT_STATUS (R20). -/
def slotStatus : List Byte → State → State × Answer := ofLength 3 fun body s =>
  let first := field2 body 0
  let count := field1 body 2
  if 1 ≤ count ∧ count ≤ 64 ∧ first + count ≤ 448 then done (slotRun s first count) s else refuse .badArgument s

/-! ## Session end (R18) -/

/-- What the end of its owner's session makes of a slot (R18). -/
def Slot.endSession (p : PortId) (x : Slot) : Slot :=
  if x.owner = some p then
    match x.content with
    | .loading _ _ => { x with owner := none }
    | .ready _ _ => if 0 < x.pins then { x with owner := none, orphan := true } else Slot.free
    | _ => Slot.free
  else x

/-! ## Meanings -/

def execAllocateSlot (p : PortId) (s : State) : Result := .next (serve .allocateSlot p (allocateSlot p) s)
def execOpenFill (p : PortId) (s : State) : Result := .next (serve .openFill p (openFill p) s)
def execWritePlane (p : PortId) (s : State) : Result := .next (serve .writePlane p (writePlane p) s)
def execCloseFill (p : PortId) (s : State) : Result := .next (serve .closeFill p (closeFill p) s)
def execAbandonFill (p : PortId) (s : State) : Result := .next (serve .abandonFill p (abandonFill p) s)
def execFreeSlot (p : PortId) (s : State) : Result := .next (serve .freeSlot p (freeSlot p) s)
def execSlotStatus (p : PortId) (s : State) : Result := .next (serve .slotStatus p slotStatus s)

/-- SESSION_END_PLANE_STORE (R18). -/
def execSessionEndPlaneStore (p : PortId) (s : State) : Result :=
  .next (takeAnnouncement .store p (fun s => { s with slots := mapBank (Slot.endSession p) s.slots }) s)

end Sys2Proof.Machine
end

