-- ==== Sys2Proof/Machine/Library.lean ====
section
/-! DEFINITION. The library loader: flash bursts, the scan, the load job queue, the packed form and the loader's host
requests (spec/02_library_loading.md). -/

namespace Sys2Proof.Machine

/-! ## Read bursts (R23) -/

/-- A read burst begins: the command is sent and the flash has 1 ms to send the start token. -/
def startBurst (offset length : Nat) (s : State) : State :=
  { s with lib := { s.lib with burst := some { offset := offset, length := length, timer := some Config.flashTime } } }

/-- The bytes behind the start token FEh, once it has come; the bytes before it are ignored (R23). -/
def afterToken : List Byte → Option (List Byte)
  | [] => none
  | x :: rest => if x = 0xFE then some rest else afterToken rest

/-- The bytes asked for, once all have come, as the row that takes them; FL_CS_n then rises, and no byte behind them is taken
(R23). -/
def Burst.dataRow (b : Burst) (data : List Byte) : List Instr :=
  if b.length ≤ data.length then [.flashBurstDone (data.take b.length)] else []

/-- The rows, in their order, by which the loader takes what the flash has sent in a burst: every byte clocked since the end of
the command while the start token is awaited, and every byte since the token after it has been taken. Bytes that are no start
token, before it, are no row (R23). -/
def Burst.rows (b : Burst) (bytes : List Byte) : List Instr :=
  if b.timer.isSome then
    match afterToken bytes with
    | some data => .startToken :: b.dataRow data
    | none => []
  else b.dataRow bytes

/-! ## The scan (R24, R178) -/

/-- A scan begins with the header's burst; the previous image, and a scan in progress with its burst, are gone. -/
def startScan (s : State) : State :=
  startBurst 0 10 { s with lib := { s.lib with
    state := .scanning, reason := .none, entries := [], dirCrc := 0, scan := some { header := none, table := [] } } }

/-- The scan ends: LIBRARY_SCANNED goes to every CONTROL port, with an entry count of 0 unless the state is VALID. -/
def endScan (state : LibState) (reason : InvalidReason) (entries : List DirEntry) (crc : Crc32) (s : State) : State :=
  { s with lib := { s.lib with
    state := state, reason := reason, entries := entries, dirCrc := crc, scan := none, burst := none } }.notifyControl
    (.libraryScanned state reason entries.length)

/-- The signature "VJPL" (R178). -/
def signature : List Byte := [0x56, 0x4A, 0x50, 0x4C]

/-- The scan goes on with the table bytes taken so far: the next burst, or the judgement of the directory CRC (R24). -/
def scanTable (count : Nat) (crc : Crc32) (table : List Byte) (s : State) : State :=
  if table.length < 16 * count then
    startBurst (10 + table.length) (min Config.burstBytes (16 * count - table.length))
      { s with lib := { s.lib with scan := some { header := some (count, crc), table := table } } }
  else if crc32 table = crc then endScan .valid .none (dirEntries table count) crc s
  else endScan .invalid .badCrc [] 0 s

/-- The header has been read (R24, steps 2 and 3). -/
def scanHeader (header : List Byte) (s : State) : State :=
  if header.take 4 ≠ signature then endScan .invalid .badSignature [] 0 s
  else if Config.maxEntries < field2 header 4 then endScan .invalid .badCount [] 0 s
  else scanTable (field2 header 4) (crcAt header 6) [] s

/-! ## The packed form (R25) -/

/-- What an expansion has given over some stored bytes: the expanded bytes, where it stands, and whether it has shown a
format error. -/
structure Expansion where
  out : List Byte
  run : RunPart
  failed : Bool
  deriving DecidableEq, Repr

/-- The expansion of stored bytes, run after run. `stored` is how many stored bytes are left from the first of the list
on, `plane` how many bytes the plane has left. A run that would pass either end is a format error at its header; so are
stored bytes beyond a full plane (R25; notes/assumptions/17.md). -/
def expandRuns : List Byte → RunPart → (stored plane : Nat) → Expansion
  | [], run, stored, plane => { out := [], run := run, failed := decide (run = .header ∧ plane = 0 ∧ 0 < stored) }
  | b :: rest, .header, stored, plane =>
    let k := b.toNat % 128
    if 128 ≤ b.toNat then
      if plane < k + 3 ∨ stored < 2 then { out := [], run := .header, failed := true }
      else expandRuns rest (.repeated (k + 3)) (stored - 1) plane
    else
      if plane < k + 1 ∨ stored < k + 2 then { out := [], run := .header, failed := true }
      else expandRuns rest (.literal (k + 1)) (stored - 1) plane
  | b :: rest, .literal left, stored, plane =>
    let x := expandRuns rest (if left ≤ 1 then .header else .literal (left - 1)) (stored - 1) (plane - 1)
    { x with out := b :: x.out }
  | b :: rest, .repeated n, stored, plane =>
    let x := expandRuns rest .header (stored - 1) (plane - n)
    { x with out := List.replicate n b ++ x.out }

/-! ## Jobs (R32, R33, R34) -/

/-- The entry is usable (R33): its form is RAW (00h) or PACKED (01h), a RAW one is 65,536 bytes long, it is not empty, and
it lies within the flash. -/
def DirEntry.usable (e : DirEntry) : Bool :=
  decide ((e.form = 0 ∨ e.form = 1) ∧ (e.form = 0 → e.length = Config.planeBytes) ∧ e.length ≠ 0
    ∧ e.offset + e.length ≤ Config.flashBytes)

/-- The progress of a FILLING or LOADING slot. -/
def SlotContent.progress : SlotContent → Nat
  | .filling n _ => n
  | .loading n _ => n
  | _ => 0

/-- The result LOAD_DONE carries for an ending and the slot's new state (R34). -/
def loadResult (e : LoadEnding) (state : SlotState) : LoadResult :=
  match e with
  | .complete _ _ => if state = .ready then .loaded else .checkFailed
  | .flashError => .flashError
  | _ => .formatError

/-- The ending of a job other than a cancelled one: the store takes the load ending, the job leaves the queue, and
LOAD_DONE goes to the requesting port unless the slot is now FREE (R34). -/
def endJob (j : Job) (e : LoadEnding) (s : State) : State :=
  let written := (s.slot j.slot).content.progress
  let t := loadEnding j.slot e s
  let t := { t with lib := { t.lib with jobs := t.lib.jobs.tail, run := none, burst := none } }
  let state := (t.slot j.slot).content.state
  if state = .free then t else t.notify j.port (.loadDone j.slot (loadResult e state) state written)

/-- The job at the head starts: it copies its entry and begins reading; a job whose entry is unusable ends at once with a
format error, and the next one starts. The first argument bounds the jobs that may end so. -/
def startJobs : Nat → State → State
  | 0, s => s
  | n + 1, s =>
    match s.lib.jobs with
    | [] => s
    | j :: _ =>
      match s.lib.entries[j.entry]? with
      | some e =>
        if e.usable then
          startBurst e.offset (min Config.burstBytes e.length)
            { s with lib := { s.lib with run := some { entry := e, taken := 0, run := .header } } }
        else startJobs n (endJob j .formatError s)
      | none => startJobs n (endJob j .formatError s)

/-- A new head starts, when no job is running and the queue is not empty (R32). -/
def startHead (s : State) : State := if s.lib.run.isSome then s else startJobs s.lib.jobs.length s

/-- The running job ends and the next one starts (R34). -/
def finishJob (j : Job) (e : LoadEnding) (s : State) : State := startHead (endJob j e s)

/-- The running job goes on with the bytes of a completed burst: they are expanded, the expanded bytes go to the slot,
and the job ends or reads its next burst (R33). -/
def jobBytes (j : Job) (r : JobRun) (data : List Byte) (s : State) : State :=
  let left := r.entry.length - r.taken
  let plane := Config.planeBytes - (s.slot j.slot).content.progress
  let x : Expansion :=
    if r.entry.form = 0 then { out := data, run := .header, failed := false } else expandRuns data r.run left plane
  let t := loadWrite j.slot x.out s
  let taken := r.taken + data.length
  if x.failed then finishJob j .formatError t
  else if taken < r.entry.length then
    startBurst (r.entry.offset + taken) (min Config.burstBytes (r.entry.length - taken))
      { t with lib := { t.lib with run := some { r with taken := taken, run := x.run } } }
  else if x.out.length = plane then finishJob j (.complete r.entry.crc j.entry) t
  else finishJob j .formatError t

/-! ## Host requests (R26 to R31, R35) -/

/-- LIBRARY_STATUS (R26): the image counts as empty unless the state is VALID (R22). -/
def libraryStatus : List Byte → State → State × Answer := ofLength 0 fun _ s =>
  if s.lib.state = .valid then
    done (u8 s.lib.state.code ++ u8 s.lib.reason.code ++ le2 s.lib.entries.length ++ crcBytes s.lib.dirCrc
      ++ u8 s.lib.jobs.length) s
  else
    refuseWith .libraryUnavailable
      (u8 s.lib.state.code ++ u8 s.lib.reason.code ++ le2 0 ++ le4 0 ++ u8 0) s

/-- LIBRARY_ENTRY (R27). -/
def libraryEntry : List Byte → State → State × Answer := ofLength 2 fun body s =>
  if s.lib.state ≠ .valid then refuse .libraryUnavailable s
  else
    match s.lib.entries[field2 body 0]? with
    | none => refuse .badArgument s
    | some e =>
      done (le2 (field2 body 0) ++ le4 e.offset ++ le4 e.length ++ crcBytes e.crc ++ [e.form] ++ e.label) s

/-- RESCAN_LIBRARY (R28). -/
def rescanLibrary (p : PortId) : List Byte → State → State × Answer := ofLength 0 <| controlOnly p fun _ s =>
  if s.lib.jobs.length ≠ 0 then refuseWith .inUse (u8 s.lib.jobs.length) s else done [] (startScan s)

/-- The pairs of a LOAD_PLANES checked in turn (R30, step 2): each slot in range and named by no earlier pair, each entry
below the entry count; or the position of the first that fails. -/
def loadPairs (body : List Byte) (entries : Nat) : List SlotId → Nat → Nat → Except Nat (List (SlotId × Nat))
  | _, _, 0 => .ok []
  | seen, pos, k + 1 =>
    match slotOf (field2 body (4 * pos)) with
    | none => .error pos
    | some n =>
      if seen.contains n = true ∨ entries ≤ field2 body (4 * pos + 2) then .error pos
      else
        match loadPairs body entries (n :: seen) (pos + 1) k with
        | .ok rest => .ok ((n, field2 body (4 * pos + 2)) :: rest)
        | .error e => .error e

/-- LOAD_PLANES (R30, R31). -/
def loadPlanes (p : PortId) (body : List Byte) (s : State) : State × Answer :=
  let k := body.length / 4
  if 1 ≤ k ∧ k ≤ 8 ∧ body.length % 4 = 0 then
    match s.lib.state with
    | .scanning => refuse .retry s
    | .absent => refuse .libraryUnavailable s
    | .invalid => refuse .libraryUnavailable s
    | .valid =>
      match loadPairs body s.lib.entries.length [] 0 k with
      | .error pos => refuseWith .badArgument (u8 pos) s
      | .ok pairs =>
        if Config.maxJobs < s.lib.jobs.length + k then refuseWith .retry (u8 (Config.maxJobs - s.lib.jobs.length)) s
        else
          match loadClaim p (pairs.map Prod.fst) s with
          | .error (pos, st) => refuseWith st (u8 pos) s
          | .ok t =>
            done (u8 (s.lib.jobs.length + k))
              { t with lib := { t.lib with
                jobs := t.lib.jobs ++ pairs.map fun x => { slot := x.1, entry := x.2, port := p } } }
  else refuse .badLength s

/-- The jobs named leave the queue without a LOAD_DONE; when the running one is among them it stops, its burst abandoned
(R35, R36). Its successor starts by `startHead`. -/
def dropJobs (gone : Job → Bool) (e : LoadEnding) (s : State) : State :=
  let t := (s.lib.jobs.filter gone).foldl (fun u j => loadEnding j.slot e u) s
  let headGone := match s.lib.jobs with | j :: _ => gone j | [] => false
  { t with lib := { t.lib with
    jobs := s.lib.jobs.filter fun j => !gone j
    run := if headGone then none else t.lib.run
    burst := if headGone then none else t.lib.burst } }

/-- CANCEL_LOAD (R35). -/
def cancelLoad (p : PortId) : List Byte → State → State × Answer := ofLength 2 fun body s =>
  match slotOf (field2 body 0) with
  | none => refuse .badArgument s
  | some n =>
    match s.lib.jobs.find? (fun j => j.slot == n) with
    | some j => if j.port = p then done [] (dropJobs (fun x => x == j) .cancelled s) else refuse .notOwner s
    | none => if (s.slot n).owner = some p then refuse .wrongState s else refuse .notOwner s

/-! ## Meanings -/

def execLibraryStatus (p : PortId) (s : State) : Result := .next (serve .libraryStatus p libraryStatus s)
def execLibraryEntry (p : PortId) (s : State) : Result := .next (serve .libraryEntry p libraryEntry s)
def execRescanLibrary (p : PortId) (s : State) : Result := .next (serve .rescanLibrary p (rescanLibrary p) s)

/-- LOAD_PLANES (R30, R31): the reply does not wait for the first job, which starts after it. -/
def execLoadPlanes (p : PortId) (s : State) : Result := .next (serveThen .loadPlanes p (loadPlanes p) startHead s)

/-- CANCEL_LOAD (R35): the next job becomes the running job. -/
def execCancelLoad (p : PortId) (s : State) : Result := .next (serveThen .cancelLoad p (cancelLoad p) startHead s)

/-- SESSION_END_LOADER (R36). -/
def execSessionEndLoader (p : PortId) (s : State) : Result :=
  .next (takeAnnouncement .loader p (fun s => startHead (dropJobs (fun j => j.port == p) .sessionEnded s)) s)

/-- START_TOKEN (R23): the byte FEh, read by `Burst.rows`, is the flash answer; the timeout stops and the
requested bytes begin to be taken. -/
def execStartToken (s : State) : Result :=
  .next (match s.lib.burst with
    | some b => { s with lib := { s.lib with burst := some { b with timer := none } } }
    | none => s)

/-- FLASH_BURST_DONE (R23): the burst whose start token has come completes with the bytes asked for. -/
def execFlashBurstDone (data : List Byte) (s : State) : Result :=
  .next (match s.lib.burst with
    | some b =>
      if b.timer.isNone = true ∧ data.length = b.length then
        let t := { s with lib := { s.lib with burst := none } }
        match s.lib.scan, s.lib.jobs, s.lib.run with
        | some sc, _, _ =>
          match sc.header with
          | none => scanHeader data t
          | some (count, crc) => scanTable count crc (sc.table ++ data) t
        | none, j :: _, some r => jobBytes j r data t
        | none, _, _ => t
      else s
    | none => s)

/-- FLASH_ANSWER_TIMEOUT (R23): the burst is unanswered; the scan ends ABSENT, or the running job with a flash error. -/
def execFlashAnswerTimeout (s : State) : Result :=
  .next (expire (s.lib.burst.bind Burst.timer) (fun s =>
    let t := { s with lib := { s.lib with burst := none } }
    match s.lib.scan, s.lib.jobs with
    | some _, _ => endScan .absent .noAnswer [] 0 t
    | none, j :: _ => if s.lib.run.isSome then finishJob j .flashError t else t
    | none, [] => t) s)

end Sys2Proof.Machine
end

