-- ==== Sys2Proof/Machine/Sequences.lean ====
section
/-! DEFINITION. The sequence table and the step pool (spec/03_sequences_and_the_step_pool.md). -/

namespace Sys2Proof.Machine

/-! ## Steps leaving a sequence (R41) -/

/-- Steps return to the pool and their pins are released, in one action (R41). -/
def returnSteps (steps : List Step) (s : State) : State :=
  pinRelease (steps.map Step.slot) { s with poolFree := s.poolFree + steps.length }

/-- A sequence becomes EMPTY; its steps return to the pool and their pins are released (R39, R41). -/
def emptySequence (n : SeqId) (s : State) : State :=
  returnSteps (s.seq n).steps (s.setSeq n Sequence.empty)

/-! ## The use count (R53, R54, R55) -/

/-- A use raise: none when the sequence is not SEALED (R54). -/
def useRaise (n : SeqId) (s : State) : Option State :=
  if (s.seq n).state = .sealed then some (s.setSeq n { s.seq n with uses := (s.seq n).uses + 1 }) else none

/-- A use release; an orphan that reaches 0 is deleted in the same action (R55). -/
def useRelease (n : SeqId) (s : State) : State :=
  let x := { s.seq n with uses := (s.seq n).uses - 1 }
  let t := s.setSeq n x
  if x.uses = 0 ∧ x.orphan = true then emptySequence n t else t

/-! ## Host requests (R42 to R52) -/

/-- The sequence number and owner checks of an owner-only request (R42). -/
def ownedSeq (p : PortId) (number : Nat) (act : SeqId → State → State × Answer) (s : State) : State × Answer :=
  match seqOf number with
  | none => refuse .badArgument s
  | some n => if (s.seq n).owner = some p then act n s else refuse .notOwner s

/-- The further check that the sequence is OPEN; a SEALED one is refused with WRONG_STATE (R44, R46, R47, R48). -/
def openSeq (p : PortId) (number : Nat) (act : SeqId → State → State × Answer) : State → State × Answer :=
  ownedSeq p number fun n s => if (s.seq n).state = .opened then act n s else refuse .wrongState s

/-- An EMPTY sequence claimed for a port; a repeat count of 0 means 1 (R43). -/
def claimSeq (p : PortId) (count : Nat) (n : SeqId) (s : State) : State × Answer :=
  done (seqByte n) (s.setSeq n
    { state := .opened, owner := some p, repeatCount := if count = 0 then 1 else count, steps := [], uses := 0
      orphan := false })

/-- CREATE_SEQUENCE (R43). -/
def createSequence (p : PortId) : List Byte → State → State × Answer := ofLength 3 fun body s =>
  if field1 body 0 = 0xFF then
    match (List.finRange 32).find? (fun n => (s.seq n).state == .empty) with
    | some n => claimSeq p (field2 body 1) n s
    | none => refuse .exhausted s
  else
    match seqOf (field1 body 0) with
    | none => refuse .badArgument s
    | some n => if (s.seq n).state = .empty then claimSeq p (field2 body 1) n s else refuse .inUse s

/-- APPEND_STEPS (R44, R45): the checks in order, each failure with the position of the step at fault; then pins, pool and
step list change together. -/
def appendSteps (p : PortId) (body : List Byte) (s : State) : State × Answer :=
  let count := field1 body 1
  if 1 ≤ count ∧ count ≤ 64 ∧ body.length = 2 + 8 * count then
    openSeq p (field1 body 0) (fun n s =>
      let x := s.seq n
      match stepsFrom body 2 0 count with
      | .error pos => refuseWith .badArgument (u8 pos) s
      | .ok batch =>
        if Config.maxSteps < x.steps.length + count then
          refuseWith .badArgument (u8 (Config.maxSteps - x.steps.length)) s
        else if s.poolFree < count then refuseWith .exhausted (u8 s.poolFree) s
        else
          match pinRaise (batch.map Step.slot) s with
          | .error pos => refuseWith .wrongState (u8 pos) s
          | .ok t =>
            done (u8 (x.steps.length + count))
              { t.setSeq n { x with steps := x.steps ++ batch } with poolFree := s.poolFree - count }) s
  else refuse .badLength s

/-- REMOVE_STEPS (R46). -/
def removeSteps (p : PortId) : List Byte → State → State × Answer := ofLength 2 fun body =>
  openSeq p (field1 body 0) fun n s =>
    let x := s.seq n
    let k := field1 body 1
    if k = 0 ∨ x.steps.length < k then refuseWith .badArgument (u8 x.steps.length) s
    else
      let kept := x.steps.length - k
      done (u8 kept) (returnSteps (x.steps.drop kept) (s.setSeq n { x with steps := x.steps.take kept }))

/-- SET_REPEAT (R47). -/
def setRepeat (p : PortId) : List Byte → State → State × Answer := ofLength 3 fun body =>
  openSeq p (field1 body 0) fun n s =>
    if field2 body 1 = 0 then refuse .badArgument s
    else done [] (s.setSeq n { s.seq n with repeatCount := field2 body 1 })

/-- SEAL_SEQUENCE (R48). -/
def sealSequence (p : PortId) : List Byte → State → State × Answer := ofLength 1 fun body =>
  openSeq p (field1 body 0) fun n s =>
    if (s.seq n).steps.length = 0 then refuse .wrongState s
    else done [] (s.setSeq n { s.seq n with state := .sealed })

/-- UNSEAL_SEQUENCE (R49). -/
def unsealSequence (p : PortId) : List Byte → State → State × Answer := ofLength 1 fun body =>
  ownedSeq p (field1 body 0) fun n s =>
    let x := s.seq n
    if x.state ≠ .sealed then refuse .wrongState s
    else if 0 < x.uses then refuseWith .inUse (u8 x.uses) s
    else done [] (s.setSeq n { x with state := .opened })

/-- DELETE_SEQUENCE (R50). -/
def deleteSequence (p : PortId) : List Byte → State → State × Answer := ofLength 1 fun body =>
  ownedSeq p (field1 body 0) fun n s =>
    let x := s.seq n
    if x.state = .sealed ∧ 0 < x.uses then refuseWith .inUse (u8 x.uses) s
    else done (u8 x.steps.length) (emptySequence n s)

/-- The records of a run of sequences (R51). -/
def sequenceRun (s : State) (first count : Nat) : List Byte :=
  ((List.range count).filterMap fun i => (seqOf (first + i)).map fun n => sequenceRecord n (s.seq n)).flatten

/-- SEQUENCE_STATUS (R51). -/
def sequenceStatus : List Byte → State → State × Answer := ofLength 2 fun body s =>
  let first := field1 body 0
  let count := field1 body 1
  if 1 ≤ count ∧ count ≤ 32 ∧ first + count ≤ 32 then done (le2 s.poolFree ++ sequenceRun s first count) s
  else refuse .badArgument s

/-- READ_STEPS (R52). -/
def readSteps : List Byte → State → State × Answer := ofLength 3 fun body s =>
  match seqOf (field1 body 0) with
  | none => refuse .badArgument s
  | some n =>
    let x := s.seq n
    let first := field1 body 1
    let count := field1 body 2
    if x.state = .empty then refuse .wrongState s
    else if 1 ≤ count ∧ count ≤ 64 ∧ first + count ≤ x.steps.length then
      done (((x.steps.drop first).take count).map stepRecord).flatten s
    else refuseWith .badArgument (u8 x.steps.length) s

/-! ## Session end (R56) -/

/-- What the end of its owner's session makes of one sequence: OPEN, or SEALED without a reference, it becomes EMPTY;
SEALED with one, an orphan (R56). -/
def endSessionOfSeq (p : PortId) (s : State) (n : SeqId) : State :=
  let x := s.seq n
  if x.owner = some p then
    if x.state = .sealed ∧ 0 < x.uses then s.setSeq n { x with owner := none, orphan := true }
    else emptySequence n s
  else s

/-! ## Meanings -/

def execCreateSequence (p : PortId) (s : State) : Result := .next (serve .createSequence p (createSequence p) s)
def execAppendSteps (p : PortId) (s : State) : Result := .next (serve .appendSteps p (appendSteps p) s)
def execRemoveSteps (p : PortId) (s : State) : Result := .next (serve .removeSteps p (removeSteps p) s)
def execSetRepeat (p : PortId) (s : State) : Result := .next (serve .setRepeat p (setRepeat p) s)
def execSealSequence (p : PortId) (s : State) : Result := .next (serve .sealSequence p (sealSequence p) s)
def execUnsealSequence (p : PortId) (s : State) : Result := .next (serve .unsealSequence p (unsealSequence p) s)
def execDeleteSequence (p : PortId) (s : State) : Result := .next (serve .deleteSequence p (deleteSequence p) s)
def execSequenceStatus (p : PortId) (s : State) : Result := .next (serve .sequenceStatus p sequenceStatus s)
def execReadSteps (p : PortId) (s : State) : Result := .next (serve .readSteps p readSteps s)

/-- SESSION_END_SEQUENCES (R56): in ascending sequence number. -/
def execSessionEndSequences (p : PortId) (s : State) : Result :=
  .next (takeAnnouncement .table p (fun s => (List.finRange 32).foldl (endSessionOfSeq p) s) s)

end Sys2Proof.Machine
end

