-- ==== Sys2Proof/Machine/Link.lean ====
section
/-! DEFINITION. The plane link: staging, swapping, blanking, the driver's answers, verify, and the driver-ready line
(spec/07_plane_link_and_light_channels.md, R117 to R128). -/

namespace Sys2Proof.Machine

/-! ## What the link hands on -/

/-- The link hands the player an answer, a fault or a report. -/
def toPlayer (e : LinkEvent) (s : State) : State := { s with fromLink := s.fromLink ++ [e] }

/-- The fault of a kind against the holder, step or show and slot of an identity. -/
def Identity.fault (i : Identity) (kind : FaultKind) (reason : Option Byte) : RaisedFault :=
  { kind := kind, number := i.holder.number, item := some (i.idx, i.slot), reason := reason }

/-- LINK_CHANGED to every CONTROL port (R122), given the state the link has left. -/
def linkChanged (old : LinkState) (s : State) : State :=
  s.notifyControl (.linkChanged s.link.state old s.link.drvRdy)

/-! ## Sending (R117, R120, R123, R124) -/

/-- BLANK is sent: the link awaits BLANKED, and no blank is pending any more. -/
def Link.sendBlank (l : Link) : Link :=
  { l with state := .awaitBlanked, timer := some Config.answerTime, pendingBlank := false, sent := some .blank }

/-- The LOAD of a PENDING identity is sent; the store hands its content CRC as the read begins (R17, R124). -/
def Link.sendLoad (l : Link) (i : Identity) (crc : Option Crc32) : Link :=
  { l with
    state := .transmitting, identity := some { i with stage := .sending }, timer := none, msgSlot := some i.slot
    readCrc := crc, sent := some (.load i.slot) }

/-- The link becomes IDLE; a pending blank is sent first, else a PENDING load (R123). -/
def becomeIdle (s : State) : State :=
  let l := { s.link with state := .idle, timer := none }
  if l.pendingBlank then { s with link := l.sendBlank }
  else
    match l.identity with
    | some i =>
      if i.stage = .pending then { s with link := l.sendLoad i (s.slot i.slot).contentCrc } else { s with link := l }
    | none => { s with link := l }

/-! ## Requests from the player and direct-mode control -/

/-- A discard of an identity according to its stage (R126). -/
def Link.dropIdentity (l : Link) (i : Identity) : Link :=
  match i.stage with
  | .pending | .loaded => { l with identity := none }
  | .sending | .swapping => { l with identity := none, ignore := true }

/-- A discard naming a holding (R126). -/
def discard (number : Nat) (s : State) : State :=
  match s.link.identity with
  | some i => if i.holder.number = number then { s with link := s.link.dropIdentity i } else s
  | none => s

/-- The fault with which a link that is DOWN or FAILED refuses a request (R123, R125). -/
def LinkState.refusal : LinkState → Option FaultKind
  | .down => some .linkDown
  | .failed => some .linkTimeout
  | _ => none

/-- A load request (R123): refused with a fault in DOWN and FAILED; otherwise an identity of another holder, step or show
is discarded, and the request waits as the PENDING identity, to be sent at once when the link is IDLE. -/
def loadRequest (holder : HolderRef) (idx : Nat) (slot : SlotId) (verify : Bool) (s : State) : State :=
  let i : Identity := { holder := holder, idx := idx, slot := slot, verify := verify, stage := .pending }
  match s.link.state.refusal with
  | some kind => toPlayer (.fault (i.fault kind none)) s
  | none =>
    let l := match s.link.identity with
      | some j => if j.holder = holder ∧ j.idx = idx then s.link else s.link.dropIdentity j
      | none => s.link
    let t := { s with link := { l with identity := some i } }
    if l.state = .idle then becomeIdle t else t

/-- A swap request (R125): refused with a fault in DOWN and FAILED; sent when the identity is LOADED for the holder and
step or show and the link is IDLE; discarded otherwise. -/
def swapRequest (holder : HolderRef) (idx : Nat) (slot : SlotId) (s : State) : State :=
  match s.link.state.refusal with
  | some kind =>
    toPlayer (.fault { kind := kind, number := holder.number, item := some (idx, slot), reason := none }) s
  | none =>
    match s.link.identity with
    | some i =>
      if i.holder.number = holder.number ∧ i.idx = idx ∧ i.stage = .loaded ∧ s.link.state = .idle then
        { s with link := { s.link with
          state := .awaitSwapped, identity := some { i with stage := .swapping }, timer := some Config.answerTime
          msgSlot := some i.slot, sent := some .swap } }
      else s
    | none => s

/-- The look-ahead or staged plane of a holding and step is LOADED at the link (R88, R91, R92). -/
def Link.holds (l : Link) (number idx : Nat) : Bool :=
  match l.identity with
  | some i => i.holder.number == number && i.idx == idx && i.stage == .loaded
  | none => false

/-- The link holds or is loading the plane of a holding and step (R88). -/
def Link.names (l : Link) (number idx : Nat) : Bool :=
  match l.identity with
  | some i => i.holder.number == number && i.idx == idx
  | none => false

/-- A blank request (R127). -/
def blankRequest (s : State) : State :=
  if s.link.state = .idle then { s with link := s.link.sendBlank }
  else { s with link := { s.link with pendingBlank := true } }

/-- The link leaves DOWN or FAILED with a BLANK sent, LINK_CHANGED and its report (R120, R121). -/
def linkComesUp (s : State) : State :=
  let t := { s with link := s.link.sendBlank }
  toPlayer (.report true .none) (linkChanged s.link.state t)

/-- A restart asked by RESET_PLAYER: it acts on a FAILED link only (R121). -/
def restartLink (s : State) : State := if s.link.state = .failed then linkComesUp s else s

/-- The last message sent on the plane link, byte by byte (R117, R179); a LOAD's bytes are those the plane store holds.
Of a LOAD that a fall of DRV_RDY has stopped, all bytes are shown (DESIGN CHOICE, notes/assumptions/36.md). -/
def State.plData (s : State) : List Byte :=
  match s.link.sent with
  | some m => m.bytes (planeData s.planeMem)
  | none => []

/-- The row by which the link takes an answer on PL_RX, from its answer code byte and, for REJECTED, its reason code. Any
other answer code is ignored: it is no row (R124, R179). -/
def answerRow : List Byte → Option Instr
  | [code] =>
    match code.toNat with
    | 0x81 => some .loadedAnswer
    | 0x83 => some .swappedAnswer
    | 0x84 => some .blankedAnswer
    | _ => none
  | [code, reason] => if code = 0x82 then some (.rejectedAnswer reason) else none
  | _ => none

/-! ## Meanings -/

/-- DRV_RDY_FALL (R119). A pending blank stays set. A LOAD that the fall stops stays the last message sent, and is shown whole
(DESIGN CHOICE, notes/assumptions/36.md). -/
def execDrvRdyFall (s : State) : Result :=
  .next (if s.link.state = .down then s
    else
      let t := { s with link := { s.link with
        state := .down, identity := none, ignore := false, timer := none, display := .unknown, msgSlot := none
        readCrc := none } }
      toPlayer (.report false .presentHolder) (linkChanged s.link.state t))

/-- DRV_RDY_RISE (R120). While RESET_n is low the line is looked at by the release alone (R118). -/
def execDrvRdyRise (s : State) : Result :=
  .next (if s.link.state = .down ∧ s.resetLow = false then linkComesUp s else s)

/-- The fault LINK_TIMEOUT charged at the expiry of the answer timer (R121): against the identity's holder for an answer
its holder awaited, else against the holder whose LOAD waits, if there is one. -/
def Link.timeoutFault (l : Link) : ReportFault :=
  match l.identity with
  | none => .none
  | some i =>
    if (l.ignore = false ∧ l.state ≠ .awaitBlanked) ∨ i.stage = .pending then .named (i.fault .linkTimeout none)
    else .none

/-- The answer timer runs in these states (R121). -/
def LinkState.awaiting : LinkState → Bool
  | .awaitLoaded | .awaitSwapped | .awaitBlanked => true
  | _ => false

/-- ANSWER_TIMER_EXPIRY (R121). -/
def execAnswerTimerExpiry (s : State) : Result :=
  .next (if s.link.state.awaiting then
    expire s.link.timer (fun s =>
      let t := { s with link := { s.link with
        state := .failed, identity := none, ignore := false, timer := none, display := .unknown, msgSlot := none
        readCrc := none } }
      toPlayer (.report false s.link.timeoutFault) (linkChanged s.link.state t)) s
    else s)

/-- The verify of a LOAD (R128): with the ignore flag clear and verify set, the CRC-32 of the bytes as sent differs from
the content CRC the store handed. -/
def verifyFails (i : Identity) (damage : Crc32) (s : State) : Bool :=
  !s.link.ignore && i.verify && (s.link.readCrc != some (crc32 (planeData s.planeMem i.slot) ^^^ damage))

/-- LOAD_TRANSMISSION_END (R124, R128). -/
def execLoadTransmissionEnd (damage : Crc32) (s : State) : Result :=
  .next (if s.link.state = .transmitting then
    let t := { s with link := { s.link with state := .awaitLoaded, timer := some Config.answerTime } }
    match s.link.identity with
    | some i =>
      if verifyFails i damage s then
        toPlayer (.fault (i.fault .planeCheck none))
          (mismatchReport i.slot { t with link := { t.link with identity := none, ignore := true } })
      else t
    | none => t
    else s)

/-- LOADED_ANSWER (R124). -/
def execLoadedAnswer (s : State) : Result :=
  .next (if s.link.state = .awaitLoaded then
    if s.link.ignore then becomeIdle { s with link := { s.link with ignore := false, msgSlot := none, readCrc := none } }
    else
      match s.link.identity with
      | some i =>
        becomeIdle (toPlayer (.loaded i.holder.number i.idx)
          { s with link := { s.link with identity := some { i with stage := .loaded }, msgSlot := none, readCrc := none } })
      | none => becomeIdle { s with link := { s.link with msgSlot := none, readCrc := none } }
    else s)

/-- REJECTED_ANSWER (R124): one with reason code 0 is ignored in every state. -/
def execRejectedAnswer (reason : Byte) (s : State) : Result :=
  .next (if s.link.state = .awaitLoaded ∧ reason ≠ 0 then
    if s.link.ignore then becomeIdle { s with link := { s.link with ignore := false, msgSlot := none, readCrc := none } }
    else
      match s.link.identity with
      | some i =>
        becomeIdle (toPlayer (.fault (i.fault .linkReject (some reason)))
          { s with link := { s.link with identity := none, msgSlot := none, readCrc := none } })
      | none => becomeIdle { s with link := { s.link with msgSlot := none, readCrc := none } }
    else s)

/-- What the driver shows after a SWAPPED answer (R125). -/
def Link.swappedDisplay (l : Link) : Display :=
  match l.msgSlot with
  | some n => .slot n
  | none => l.display

/-- SWAPPED_ANSWER (R125). -/
def execSwappedAnswer (s : State) : Result :=
  .next (if s.link.state = .awaitSwapped then
    let l := { s.link with display := s.link.swappedDisplay, msgSlot := none }
    if s.link.ignore then becomeIdle { s with link := { l with ignore := false } }
    else
      match s.link.identity with
      | some i => becomeIdle (toPlayer (.swapped i.holder.number i.idx) { s with link := { l with identity := none } })
      | none => becomeIdle { s with link := l }
    else s)

/-- BLANKED_ANSWER (R127). -/
def execBlankedAnswer (s : State) : Result :=
  .next (if s.link.state = .awaitBlanked then becomeIdle { s with link := { s.link with display := .dark } } else s)

end Sys2Proof.Machine
end

