-- ==== Sys2Proof/Machine/Lights.lean ====
section
/-! DEFINITION. The light channel unit, and the report of link and lights (spec/07_plane_link_and_light_channels.md,
R129 to R132). -/

namespace Sys2Proof.Machine

/-- A channel that goes off: its on-time returns to 0 (R129). -/
def Light.off (x : Light) : Light := { x with on := false, holder := none, onTime := 0 }

/-- A channel after a light request that names it or leaves it out (R129). -/
def Light.request (x : Light) (lit : Bool) (holder : HolderRef) : Light :=
  if lit then { x with on := true, holder := some holder, onTime := if x.on then x.onTime else 0 }
  else if x.on then x.off else x

/-- The four channels, each changed with its number at hand. -/
def State.eachLight (s : State) (f : ChannelId → Light → Light) : State :=
  { s with lights := ⟨#[f 0 s.lights[0], f 1 s.lights[1], f 2 s.lights[2], f 3 s.lights[3]], rfl⟩ }

/-- A light request: the set of channels to be on for a holder, in one action (R129). -/
def lightRequest (holder : HolderRef) (mask : Mask) (s : State) : State :=
  s.eachLight fun c x => x.request (mask.getLsbD c.val) holder

/-- A light request with the empty set: every channel goes off (R129). -/
def lightsOff (s : State) : State := s.eachLight fun _ x => if x.on then x.off else x

/-- A player reset clears the trip flags too (R129). -/
def resetLights (s : State) : State := s.eachLight fun _ x => { (if x.on then x.off else x) with trip := false }

/-- A channel is forced off: it goes dark, its trip flag is set, and LIGHT_LIMIT is raised against the holder it was lit
for (R130). -/
def forceOff (c : ChannelId) (s : State) : State :=
  let t := s.setLight c { (s.light c).off with trip := true }
  match (s.light c).holder with
  | some h => { t with fromLights := t.fromLights ++
      [{ kind := .lightLimit, number := h.number, item := none, reason := none }] }
  | none => t

/-- The channel is on at or past its non-zero limit (R130, R131). -/
def Light.pastLimit (x : Light) : Bool :=
  x.on && decide (x.limit ≠ 0) && decide (x.limit * Config.limitUnit ≤ x.onTime)

/-- The time a lit channel has left to its non-zero limit (R130). -/
def Light.left (x : Light) : Option Nat :=
  if x.on = true ∧ x.limit ≠ 0 then some (x.limit * Config.limitUnit - x.onTime) else none

/-- Forces a channel off if it is past its limit (R131). -/
def forceIfPast (s : State) (c : ChannelId) : State := if (s.light c).pastLimit then forceOff c s else s

/-- The four limits (R131). -/
def limitBytes (s : State) : List Byte :=
  le2 (s.light 0).limit ++ le2 (s.light 1).limit ++ le2 (s.light 2).limit ++ le2 (s.light 3).limit

/-- CONFIGURE_LIGHTS (R131): the limits are set in one action, and channels past their new limits are forced off. -/
def configureLights (p : PortId) : List Byte → State → State × Answer := ofLength 8 <| controlOnly p fun body s =>
  done (limitBytes s)
    ((List.finRange 4).foldl forceIfPast (s.eachLight fun c x => { x with limit := field2 body (2 * c.val) }))

/-- One channel as LINK_STATUS reports it (R132). An on-time of 2^32 units or more is reported by its low 4 bytes (DESIGN
CHOICE, notes/assumptions/34.md). -/
def lightRecord (x : Light) : List Byte := flag x.on ++ le4 (x.onTime / Config.limitUnit) ++ le2 x.limit ++ flag x.trip

/-- LINK_STATUS (R132). The level of DRV_RDY is sent as 01h for high and 00h for low (DESIGN CHOICE,
notes/assumptions/35.md). -/
def linkStatus : List Byte → State → State × Answer := ofLength 0 fun _ s =>
  done (u8 s.link.state.code ++ flag s.link.drvRdy ++ opt 9 identityBytes s.link.identity ++ flag s.link.ignore
    ++ flag s.link.pendingBlank ++ le2 (s.link.timer.getD 0) ++ s.link.display.bytes
    ++ lightRecord (s.light 0) ++ lightRecord (s.light 1) ++ lightRecord (s.light 2) ++ lightRecord (s.light 3)) s

/-! ## Meanings -/

def execConfigureLights (p : PortId) (s : State) : Result := .next (serve .configureLights p (configureLights p) s)
def execLinkStatus (p : PortId) (s : State) : Result := .next (serve .linkStatus p linkStatus s)

/-- LIGHT_LIMIT_EXPIRY (R130). -/
def execLightLimitExpiry (c : ChannelId) (s : State) : Result := .next (expire (s.light c).left (forceOff c) s)

end Sys2Proof.Machine
end

