-- ==== Sys2Proof/Machine/Triggers.lean ====
section
/-! DEFINITION. The trigger unit: inputs, latches, the wait with its timeout, the sync output and the report
(spec/06_triggers_and_step_timing.md). -/

namespace Sys2Proof.Machine

/-! ## Latches (R105, R108, R110, R111) -/

def Trigger.latch (t : Trigger) : Source → Latch
  | .a => t.latchA
  | .b => t.latchB
  | .soft => t.latchSoft

def Trigger.setLatch (t : Trigger) (x : Source) (l : Latch) : Trigger :=
  match x with
  | .a => { t with latchA := l }
  | .b => { t with latchB := l }
  | .soft => { t with latchSoft := l }

def Latch.clear : Latch := { pending := false, overrun := false }

/-- A clear sets the three latches and the three overrun flags clear in one action (R110). -/
def clearLatches (s : State) : State :=
  { s with trig := { s.trig with latchA := Latch.clear, latchB := Latch.clear, latchSoft := Latch.clear } }

/-- The outcomes of an arrival, with their values (R109, R175). -/
inductive TriggerOutcome where
  | consumed | latched | overrun
  deriving DecidableEq, Repr

def TriggerOutcome.code : TriggerOutcome → Nat
  | .consumed => 0 | .latched => 1 | .overrun => 2

/-- What an arrival of source x meets (R108). -/
def Trigger.outcome (t : Trigger) (x : Source) : TriggerOutcome :=
  if (t.latch x).pending then .overrun
  else
    match t.wait with
    | some w => if w.source = x then .consumed else .latched
    | none => .latched

/-- An arrival of a trigger of source x (R108): consumed by a wait on x, latched, or lost; TRIGGER_OVERRUN is sent once for
each time the overrun flag becomes set. -/
def triggerArrival (x : Source) (s : State) : State :=
  let l := s.trig.latch x
  match s.trig.outcome x with
  | .consumed =>
    match s.trig.wait with
    | some w =>
      { s with trig := { s.trig with wait := none }, fromTrig := s.fromTrig ++ [.consumption w.holder.number] }
    | none => s
  | .latched => { s with trig := s.trig.setLatch x { l with pending := true } }
  | .overrun =>
    if l.overrun then s
    else
      ({ s with trig := s.trig.setLatch x { l with overrun := true } } : State).notifyControl (.triggerOverrun x)

/-- The source a step's advance waits on; none for TIMED (R89). -/
def Advance.source : Advance → Option Source
  | .timed => none
  | .triggerA => some .a
  | .triggerB => some .b
  | .soft => some .soft

/-- The player asks for latch x to be consumed, and it is clear: a wait is made with the timeout now configured (R111). -/
def makeWait (x : Source) (holder : HolderRef) (s : State) : State :=
  let timer := if s.trig.timeout = 0 then none else some (s.trig.timeout * Config.timeoutUnit)
  let w : Wait := { source := x, holder := holder, timeout := s.trig.timeout, timer := timer }
  { s with trig := { s.trig with wait := some w } }

/-- Latch x is set and is consumed: it and its overrun flag become clear (R111). -/
def consumeLatch (x : Source) (s : State) : State := { s with trig := s.trig.setLatch x Latch.clear }

/-- The player cancels the wait; with none there is nothing to do (R113). -/
def cancelWait (s : State) : State := { s with trig := { s.trig with wait := none } }

/-- The sync pulse: SYNC_OUT is high until 2 µs after the latest request (R115). -/
def syncPulse (s : State) : State := { s with trig := { s.trig with sync := some Config.syncTime } }

/-! ## Host requests (R107, R109, R116) -/

/-- The configuration in the 6-byte form of CONFIGURE_TRIGGERS (R107). -/
def Trigger.configBytes (t : Trigger) : List Byte :=
  flag t.cfgA.enabled ++ flag t.cfgA.falling ++ flag t.cfgB.enabled ++ flag t.cfgB.falling ++ le2 t.timeout

/-- CONFIGURE_TRIGGERS (R107). A wait in progress keeps its timeout. -/
def configureTriggers (p : PortId) : List Byte → State → State × Answer := ofLength 6 <| controlOnly p fun body s =>
  match boolOf (field1 body 0), boolOf (field1 body 1), boolOf (field1 body 2), boolOf (field1 body 3) with
  | some ea, some fa, some eb, some fb =>
    done s.trig.configBytes
      { s with trig := { s.trig with
        cfgA := { enabled := ea, falling := fa }, cfgB := { enabled := eb, falling := fb }
        timeout := field2 body 4 } }
  | _, _, _, _ => refuse .badArgument s

/-- The ports a TRIGGER is accepted from (R109). -/
def mayTrigger (p : PortId) (s : State) : Bool :=
  (s.port p).cls == .control
    || (match s.player.out with
      | .running _ c => c.port == some p
      | .direct _ d => d.port == p
      | _ => false)

/-- TRIGGER (R109). A TRIGGER_OVERRUN that it causes is handed before its reply (DESIGN CHOICE,
notes/assumptions/33.md). -/
def softTrigger (p : PortId) : List Byte → State → State × Answer := ofLength 0 fun _ s =>
  if mayTrigger p s then done (u8 (s.trig.outcome .soft).code) (triggerArrival .soft s) else refuse .notPermitted s

/-- The time left on the wait's timer in ms, rounded up, or 0 when there is none (R116). -/
def Trigger.waitLeft (t : Trigger) : Nat :=
  match t.wait.bind Wait.timer with
  | some r => (r + (Config.timeoutUnit - 1)) / Config.timeoutUnit
  | none => 0

/-- TRIGGER_STATUS (R116). A recognised level is sent as 01h for high and 00h for low (DESIGN CHOICE,
notes/assumptions/35.md). -/
def triggerStatus : List Byte → State → State × Answer := ofLength 0 fun _ s =>
  let t := s.trig
  done (t.configBytes ++ flag t.levelA ++ flag t.levelB
    ++ flag t.latchA.pending ++ flag t.latchB.pending ++ flag t.latchSoft.pending
    ++ flag t.latchA.overrun ++ flag t.latchB.overrun ++ flag t.latchSoft.overrun
    ++ opt 1 (fun w => u8 (Wait.source w).code) t.wait ++ le2 t.waitLeft) s

/-! ## Meanings -/

def execConfigureTriggers (p : PortId) (s : State) : Result :=
  .next (serve .configureTriggers p (configureTriggers p) s)
def execTrigger (p : PortId) (s : State) : Result := .next (serve .trigger p (softTrigger p) s)
def execTriggerStatus (p : PortId) (s : State) : Result := .next (serve .triggerStatus p triggerStatus s)

/-- An input's recognised level, configuration and source. -/
def Trigger.input (t : Trigger) : TrigInput → Bool × InputConfig × Source
  | .a => (t.levelA, t.cfgA, .a)
  | .b => (t.levelB, t.cfgB, .b)

def Trigger.setLevel (t : Trigger) (i : TrigInput) (level : Bool) : Trigger :=
  match i with
  | .a => { t with levelA := level }
  | .b => { t with levelB := level }

/-- RECOGNISED_LEVEL_CHANGE (R106): the level is followed whether the input is enabled or not; an edge of the configured
direction on an enabled input is an arrival. -/
def execRecognisedLevelChange (i : TrigInput) (level : Bool) (s : State) : Result :=
  .next (
    let x := s.trig.input i
    if s.resetLow = true ∨ x.1 = level then s
    else
      let t := { s with trig := s.trig.setLevel i level }
      if x.2.1.enabled = true ∧ x.2.1.falling = !level then triggerArrival x.2.2 t else t)

/-- TRIGGER_TIMEOUT_EXPIRY (R112). -/
def execTriggerTimeoutExpiry (s : State) : Result :=
  .next (expire (s.trig.wait.bind Wait.timer) (fun s =>
    match s.trig.wait with
    | some w =>
      { s with
        trig := { s.trig with wait := none }
        fromTrig := s.fromTrig ++
          [.fault { kind := .triggerTimeout, number := w.holder.number, item := none, reason := none }] }
    | none => s) s)

/-- SYNC_PULSE_END (R115). -/
def execSyncPulseEnd (s : State) : Result :=
  .next (expire s.trig.sync (fun s => { s with trig := { s.trig with sync := none } }) s)

end Sys2Proof.Machine
end

