-- ==== Sys2Proof/Machine/Selection.lean ====
section
/-! DEFINITION. What holds the output: contexts starting and resuming, staging, preemption, the endings of direct mode, the
selection rule, completion and faults. Every player event is built from these (spec/05_the_player.md,
spec/08_direct_mode.md). -/

namespace Sys2Proof.Machine

/-! ## The holder of the output (R77, R95) -/

/-- The running context, current or fallback, with its holding number. -/
def Output.context? : Output → Option (Nat × Context)
  | .running n c => some (n, c)
  | .fallback n c => some (n, c)
  | _ => none

/-- The present holding number. -/
def Output.number? : Output → Option Nat
  | .running n _ | .offering n _ | .direct n _ | .fallback n _ => some n
  | .idle | .halted => none

/-- The running context replaced by one that is further on. -/
def Output.withContext (c : Context) : Output → Output
  | .running n _ => .running n c
  | .fallback n _ => .fallback n c
  | o => o

def State.setOut (s : State) (o : Output) : State := { s with player := { s.player with out := o } }
def State.setContext (s : State) (c : Context) : State := s.setOut (s.player.out.withContext c)

/-- A context as other blocks name it (R105, R118). -/
def Context.holder (c : Context) : Holder :=
  match c.port with
  | some p => .context p c.tag
  | none => .fallback

/-- A step of a context's sequence. -/
def stepOf (s : State) (c : Context) (idx : Nat) : Option Step := (s.seq c.seq).steps[idx]?

/-- A new holder takes the output under a new holding number (R95). -/
def occupy (mk : Nat → Output) (s : State) : State :=
  { s with player := { s.player with out := mk (s.player.lastNumber + 1), lastNumber := s.player.lastNumber + 1 } }

/-- A notice to a context's submitter; the fallback context has none (R98). -/
def State.notifySubmitter (s : State) (p : Option PortId) (n : Notice) : State :=
  match p with
  | some p => s.notify p n
  | none => s

/-! ## Staging (R88, R90) -/

/-- The player asks the link to load a step of a context, for its holding and with the step's verify flag (R88, R90). -/
def requestStep (number : Nat) (c : Context) (idx : Nat) (s : State) : State :=
  match stepOf s c idx with
  | some x => loadRequest { who := c.holder, number := number } idx x.slot x.verify s
  | none => s

/-- The swap begins: the context enters HOLD and the player asks for the swap (R90). -/
def beginSwap (number : Nat) (c : Context) (x : Step) (s : State) : State :=
  swapRequest { who := c.holder, number := number } c.idx x.slot (s.setContext { c with phase := some .hold })

/-- Passes still to begin after the first, for a repeat count; 65535 is endless (R83). -/
def passes (count : Nat) : Remaining := if count = 65535 then .endless else .count (count - 1)

/-- The next position of a context whose sequence has the step count given; none when the context completes (R92). -/
def Context.next (c : Context) (steps : Nat) : Option (Nat × Remaining) :=
  if c.idx + 1 < steps then some (c.idx + 1, c.remaining)
  else
    match c.remaining with
    | .endless => some (0, .endless)
    | .count 0 => none
    | .count (k + 1) => some (0, .count k)

/-- The index of the step ahead (R90). -/
def Context.ahead (c : Context) (steps : Nat) : Option Nat := (c.next steps).map Prod.fst

/-! ## Starting and resuming (R83, R84, R98) -/

/-- A context starts from a PLAY entry (R83). -/
def startContext (level : Nat) (port : PortId) (tag : Word16) (seq : SeqId) (override : Nat) (s : State) : State :=
  let count := if override = 0 then (s.seq seq).repeatCount else override
  let c : Context :=
    { seq := seq, port := some port, tag := tag, level := some level, idx := 0, remaining := passes count
      phase := some .staging, cut := false, late := 0 }
  let t := (clearLatches (occupy (fun n => .running n c) s)).notify port (.contextStarted tag seq level count)
  requestStep t.player.lastNumber c 0 t

/-- A suspended context resumes; no plane is staged for its new holding (R84). -/
def resumeContext (c : Context) (s : State) : State :=
  let c := { c with phase := some .staging }
  let t := (clearLatches (occupy (fun n => .running n c) s)).notifySubmitter c.port (.contextResumed c.tag c.idx c.cut)
  requestStep t.player.lastNumber c c.idx t

/-- The fallback context starts after a fault of a kind (R98). -/
def startFallback (seq : SeqId) (kind : FaultKind) (s : State) : State :=
  let s := (useRaise seq s).getD s
  let c : Context :=
    { seq := seq, port := none, tag := 0xFFFF, level := none, idx := 0, remaining := passes (s.seq seq).repeatCount
      phase := some .staging, cut := false, late := 0 }
  let t := (clearLatches (occupy (fun n => .fallback n c) s)).notifyControl (.fallbackStarted seq kind)
  requestStep t.player.lastNumber c 0 t

/-- An offer of direct mode is made to a port with an open session: DIRECT_OFFERED, and the window starts (R134). -/
def offerDirect (port : PortId) (level : Nat) (s : State) : State :=
  (occupy (fun n => .offering n { port := port, level := level, window := some Config.offerTime }) s).notify port
    (.directOffered level)

/-- An offer to a port without a session ends at once, with no notice; its holding number is spent (R134). -/
def spendNumber (s : State) : State := { s with player := { s.player with lastNumber := s.player.lastNumber + 1 } }

/-! ## Endings (R85, R86, R94, R96, R135) -/

/-- The hold and gap timers stop (R114). -/
def stopTimers (s : State) : State := { s with player := { s.player with holdTimer := none, gapTimer := none } }

/-- What every end of a running context does to the blocks that play it: timers stop, the wait is cancelled, its plane is
discarded, and every channel goes off (R85, R86, R94, R96). -/
def silence (number : Nat) (s : State) : State := lightsOff (discard number (cancelWait (stopTimers s)))

/-- A context is pushed on the stack, with CONTEXT_PREEMPTED, and nothing holds the output (R85, R86). -/
def pushContext (number : Nat) (c : Context) (cut : Bool) (level : Nat) (s : State) : State :=
  let t := silence number s
  let t := { t with player := { t.player with out := .idle, stack := { c with phase := none, cut := cut } :: t.player.stack } }
  t.notifySubmitter c.port (.contextPreempted c.tag c.idx level cut)

/-- The first five steps of every ending of an offer or a holding (R135): lights off when a show is in HOLD, the plane
discarded, the shows' pins released, the player IDLE. -/
def endDirect (s : State) : State :=
  match s.player.out with
  | .offering n _ => (discard n s).setOut .idle
  | .direct n d =>
    let s := if d.shows.any (fun x => x.stage == .hold) then lightsOff s else s
    (pinRelease (d.shows.map Show.slot) (discard n s)).setOut .idle
  | _ => s

/-- The port, level and number of shows an ending concerns (R135). -/
def Output.directParty : Output → Option (PortId × Nat × Nat)
  | .offering _ o => some (o.port, o.level, 0)
  | .direct _ d => some (d.port, d.level, d.shows.length)
  | _ => none

/-- DIRECT_ENDED to the port whose offer or holding has ended (R135). -/
def notifyDirectEnded (o : Output) (reason : EndReason) (byLevel : Option Nat) (s : State) : State :=
  match o.directParty with
  | some (p, level, shows) => s.notify p (.directEnded reason level shows byLevel)
  | none => s

/-- An ending with its notice (R135). -/
def endDirectWith (reason : EndReason) (byLevel : Option Nat) (s : State) : State :=
  notifyDirectEnded s.player.out reason byLevel (endDirect s)

/-! ## Selection (R73, R81, R82, R85, R86, R87) -/

/-- An entry of a level is admissible (R73). -/
def Player.admits (x : Player) (level : Nat) : Bool := level == 7 || decide (x.holdLevel < level)

/-- The level of the head entry, 0 when the queue is empty or its head is not admissible (R82). -/
def State.headLevel (s : State) : Nat :=
  match s.queue with
  | e :: _ => if s.player.admits e.level then e.level else 0
  | [] => 0

/-- The level of the top of the stack, 0 when it is empty (R82). -/
def State.stackLevel (s : State) : Nat :=
  match s.player.stack with
  | c :: _ => c.level.getD 0
  | [] => 0

/-- The top of the stack resumes, if there is one (R82). -/
def resumeTop (s : State) : State :=
  match s.player.stack with
  | c :: rest => resumeContext c { s with player := { s.player with stack := rest } }
  | [] => s

/-- Selection with nothing holding the output (R82): the head is handed over when its level is above the stack top's, and
otherwise the stack top resumes. An offer to a port without a session ends at once and selection is applied again (R134);
the first argument bounds how often. -/
def selectIdle : Nat → State → State
  | 0, s => s
  | n + 1, s =>
    match s.queue with
    | [] => resumeTop s
    | e :: rest =>
      if s.stackLevel < s.headLevel then
        let t := { s with queue := rest }
        match e.ask with
        | .play tag seq override => startContext e.level e.port tag seq override t
        | .direct =>
          if (t.port e.port).sessionOpen then offerDirect e.port e.level t else selectIdle n (spendNumber t)
      else resumeTop s

/-- Selection with nothing holding the output, over the whole queue. -/
def selectHead (s : State) : State := selectIdle (s.queue.length + 1) s

/-- The context is in HOLD or GAP, where only level 7 takes the output from it (R85, R86). -/
def Context.showing (c : Context) : Bool := c.phase == some .hold || c.phase == some .gap

/-- A current context gives way to a head of the level given (R85, R86). -/
def Context.yields (c : Context) (level : Nat) : Bool :=
  match c.level with
  | some own => decide (own < level) && (level == 7 || !c.showing)
  | none => false

/-- The cut flag a preempted context is pushed with (R85, R86). -/
def Context.cutBy (c : Context) (level : Nat) : Bool := c.cut || (level == 7 && c.showing)

/-- Direct mode is at a preemptible point: its list is empty, or its head show is in neither SWAPPING nor HOLD (R140,
R141; notes/assumptions/14.md). -/
def Direct.preemptible (d : Direct) : Bool :=
  match d.shows with
  | x :: _ => x.stage != .swapping && x.stage != .hold
  | [] => true

/-- The selection rule (R81, R82, R85, R86, R87). -/
def select (s : State) : State :=
  if s.player.linkUp then
    match s.player.out with
    | .idle => selectHead s
    | .running n c =>
      if c.yields s.headLevel then selectHead (pushContext n c (c.cutBy s.headLevel) s.headLevel s) else s
    | .offering _ o =>
      if o.level < s.headLevel then selectHead (endDirectWith .preempted (some s.headLevel) s) else s
    | .direct _ d =>
      if d.level < s.headLevel ∧ (s.headLevel = 7 ∨ d.preemptible = true) then
        selectHead (endDirectWith .preempted (some s.headLevel) s)
      else s
    | .fallback _ _ => s
    | .halted => s
  else s

/-! ## Step execution (R88 to R93) -/

/-- STAGING ends: a TIMED step goes to the swap; any other enters WAITING, where a set latch is consumed at once, which
leads to the swap, and a clear one makes a wait; then selection is applied, since entering WAITING is an occasion for it
(R81, R88, R89, R111; notes/assumptions/12.md). -/
def endStaging (number : Nat) (c : Context) (s : State) : State :=
  match stepOf s c c.idx with
  | none => s
  | some x =>
    match x.advance.source with
    | none => beginSwap number c x s
    | some src =>
      if (s.trig.latch src).pending then select (beginSwap number c x (consumeLatch src s))
      else
        select (makeWait src { who := c.holder, number := number } (s.setContext { c with phase := some .waiting }))

/-- The step after a gap enters STAGING (R88, R92): with its look-ahead LOADED, STAGING ends at once; otherwise the step is
late, and its plane is asked for unless it is on its way. -/
def stageNext (number : Nat) (c : Context) (s : State) : State :=
  if s.link.holds number c.idx then endStaging number c s
  else
    let late := { c with late := min 65535 (c.late + 1) }
    let t := s.setContext late
    if t.link.names number c.idx then t else requestStep number late c.idx t

/-- The running context is gone: its use is released, and the player is IDLE and applies its selection rule (R93, R98). -/
def retire (c : Context) (s : State) : State := select ((useRelease c.seq s).setOut .idle)

/-- A context completes (R93), or the fallback context does (R98). -/
def complete (c : Context) (s : State) : State :=
  match s.player.out with
  | .fallback _ _ => retire c (s.notifyControl (.fallbackEnded .completed))
  | _ => retire c (s.notifySubmitter c.port (.contextCompleted c.tag c.late))

/-- The end of a gap (R92): completion, or selection with the context at its new position, and then, when the context
still holds the output, the staging of the step there. -/
def endGap (number : Nat) (c : Context) (s : State) : State :=
  match c.next (s.seq c.seq).steps.length with
  | none => complete c s
  | some (idx, remaining) =>
    let c := { c with idx := idx, remaining := remaining, phase := some .staging }
    let t := select (s.setContext c)
    if t.player.out.number? = some number then stageNext number c t else t

/-- The channels of a step that stay on past its hold (R91): those the step ahead shares, when the gap is 0 and the step
ahead is TIMED and LOADED; otherwise none. -/
def keptChannels (number : Nat) (c : Context) (x : Step) (s : State) : Option Mask := do
  let idx ← c.ahead (s.seq c.seq).steps.length
  let y ← stepOf s c idx
  if x.gap = 0 ∧ s.link.holds number idx = true ∧ y.advance = .timed then some (x.mask &&& y.mask) else none

/-- The light request of the end of a hold (R91). -/
def endLights (number : Nat) (c : Context) (x : Step) (s : State) : State :=
  match keptChannels number c x s with
  | some mask => lightRequest { who := c.holder, number := number } mask s
  | none => lightsOff s

/-- The end of a step's hold (R91): the lights, GAP, and the gap timer; a gap of 0 ends in the same action. -/
def endHold (number : Nat) (c : Context) (s : State) : State :=
  match stepOf s c c.idx with
  | none => s
  | some x =>
    let c' := { c with phase := some .gap }
    let t := (endLights number c x (stopTimers s)).setContext c'
    if x.gap = 0 then endGap number c' t
    else { t with player := { t.player with gapTimer := some (x.gap * Config.holdUnit) } }

/-- The SWAPPED answer of a context's step (R90): sync pulse, lights, hold timer, cut flag, and the look-ahead. -/
def showStep (number : Nat) (c : Context) (s : State) : State :=
  match stepOf s c c.idx with
  | none => s
  | some x =>
    let c' := { c with cut := false }
    let t := (lightRequest { who := c.holder, number := number } x.mask (syncPulse s)).setContext c'
    let t := { t with player := { t.player with holdTimer := some (x.hold * Config.holdUnit) } }
    match c.ahead (t.seq c.seq).steps.length with
    | some idx => requestStep number c' idx t
    | none => t

/-! ## Faults (R95 to R99) -/

/-- The fault record of a fault against the present holder (R95). -/
def Output.record (o : Output) (s : State) (f : RaisedFault) : Option FaultRecord :=
  match o with
  | .running _ c =>
    let item := f.item <|> (stepOf s c c.idx).map fun x => (c.idx, x.slot)
    some { kind := f.kind, holder := .context, seq := some c.seq, idx := item.map Prod.fst, slot := item.map Prod.snd
           port := c.port, level := c.level, reason := f.reason }
  | .fallback _ c =>
    let item := f.item <|> (stepOf s c c.idx).map fun x => (c.idx, x.slot)
    some { kind := f.kind, holder := .fallback, seq := some c.seq, idx := item.map Prod.fst, slot := item.map Prod.snd
           port := none, level := none, reason := f.reason }
  | .direct _ d =>
    let item := f.item <|> d.shows.head?.map fun x => (x.number.toNat, x.slot)
    some { kind := f.kind, holder := .direct, seq := none, idx := item.map Prod.fst, slot := item.map Prod.snd
           port := some d.port, level := some d.level, reason := f.reason }
  | .offering _ x =>
    some { kind := f.kind, holder := .direct, seq := none, idx := f.item.map Prod.fst, slot := f.item.map Prod.snd
           port := some x.port, level := some x.level, reason := f.reason }
  | .idle | .halted => none

def State.setRecord (s : State) (r : FaultRecord) : State := { s with player := { s.player with faultRecord := some r } }

/-- After a fault the fallback starts, when one is designated and the kind allows it; otherwise selection is applied
(R96). -/
def afterFault (kind : FaultKind) (s : State) : State :=
  match s.player.designated with
  | some seq => if kind ≠ .linkDown ∧ kind ≠ .linkTimeout then startFallback seq kind s else select s
  | none => select s

/-- A fault against the fallback context halts the player (R99). -/
def halt (number : Nat) (c : Context) (r : FaultRecord) (s : State) : State :=
  let t := blankRequest (silence number s)
  let first := t.player.faultRecord
  let t := { t with player := { t.player with haltRecord := first, faultRecord := some r } }
  ((useRelease c.seq t).setOut .halted).notifyControl (.playerHalted first r)

/-- A fault against the present holder of the output (R96, R99). CONTEXT_ABORTED names the step the fault concerns, as the
fault record does (spec/05_the_player.md, "Worked example: a fault, the fallback and a halt", row 1). -/
def faultHolder (f : RaisedFault) (s : State) : State :=
  match s.player.out.record s f with
  | none => s
  | some r =>
    match s.player.out with
    | .running n c =>
      let t := ((silence n s).setRecord r).notifyControl (.playerFault r)
      let t := t.notifySubmitter c.port (.contextAborted c.tag (.faulted f.kind) (r.idx.getD c.idx) c.late)
      afterFault f.kind ((useRelease c.seq t).setOut .idle)
    | .fallback n c => halt n c r s
    | o =>
      let t := ((lightsOff (endDirect s)).setRecord r).notifyControl (.playerFault r)
      afterFault f.kind (notifyDirectEnded o .fault none t)

/-- The player takes a fault: against the present holder when it names the present holding, otherwise it is discarded
(R95). -/
def takeFault (f : RaisedFault) (s : State) : State :=
  if s.player.out.number? = some f.number then faultHolder f s else s

/-- The player takes the link's report, and with a report of unavailability the fault that came with it, in one action
(R77, R119, R120, R121). -/
def takeReport (available : Bool) (rf : ReportFault) (s : State) : State :=
  let t := { s with player := { s.player with linkUp := available } }
  if available then select t
  else
    match rf with
    | .none => t
    | .named f => takeFault f t
    | .presentHolder =>
      match t.player.out.number? with
      | some n => faultHolder { kind := .linkDown, number := n, item := none, reason := none } t
      | none => t

end Sys2Proof.Machine
end

