-- ==== Sys2Proof/Machine/Queue.lean ====
section
/-! DEFINITION. The submission queue (spec/04_submissions_and_priority_levels.md). -/

namespace Sys2Proof.Machine

/-! ## The order of the queue (R60) -/

/-- An entry joins behind every entry of its level or a higher one, and ahead of every lower one (R60). -/
def joinQueue (e : Entry) : List Entry → List Entry
  | [] => [e]
  | x :: rest => if e.level ≤ x.level then x :: joinQueue e rest else e :: x :: rest

/-- The position an entry of a level takes: the number of entries of its level or a higher one (R60). -/
def joinPosition (level : Nat) (q : List Entry) : Nat := q.countP fun x => decide (level ≤ x.level)

/-- An entry joins; the answer is its position and the number of entries now in the queue (R63, R65). -/
def join (e : Entry) (s : State) : State × Answer :=
  done (u8 (joinPosition e.level s.queue) ++ u8 (s.queue.length + 1)) { s with queue := joinQueue e s.queue }

/-- The queue asks the player to select, after the reply (R63, R65). -/
def askSelect (s : State) : State := { s with selects := s.selects + 1 }

/-! ## The questions put to the player (R64, R65, R103) -/

/-- A PLAY entry of the port and play tag. -/
def Entry.isPlay (p : PortId) (tag : Word16) (e : Entry) : Bool :=
  match e.ask with
  | .play t _ _ => e.port == p && t == tag
  | .direct => false

/-- A DIRECT entry of the port. -/
def Entry.isDirect (p : PortId) (e : Entry) : Bool := e.port == p && e.ask == .direct

/-- A context of the submitting port and play tag. -/
def Context.named (p : PortId) (tag : Word16) (c : Context) : Bool := c.port == some p && c.tag == tag

/-- The current context is of the submitting port and play tag. -/
def Output.named (p : PortId) (tag : Word16) (o : Output) : Bool :=
  match o with
  | .running _ c => c.named p tag
  | _ => false

/-- A play tag is live for a port (R64). -/
def State.tagLive (s : State) (p : PortId) (tag : Word16) : Bool :=
  s.queue.any (Entry.isPlay p tag) || s.player.out.named p tag || s.player.stack.any (Context.named p tag)

/-- The port is offered or holds direct mode (R65). -/
def Output.directOf (p : PortId) (o : Output) : Bool :=
  match o with
  | .offering _ x => x.port == p
  | .direct _ d => d.port == p
  | _ => false

/-- The port has a direct request: queued, offered or held (R65). -/
def State.hasDirect (s : State) (p : PortId) : Bool :=
  s.queue.any (Entry.isDirect p) || s.player.out.directOf p

/-! ## SUBMIT and REQUEST_DIRECT (R62, R63, R65) -/

/-- SUBMIT: the checks in order, the use raise, and the joining of the PLAY entry (R62, R63). -/
def submit (p : PortId) : List Byte → State → State × Answer := ofLength 6 fun body s =>
  let level := field1 body 1
  let tag := tagAt body 2
  match seqOf (field1 body 0) with
  | none => refuse .badArgument s
  | some n =>
    if level = 0 ∨ 7 < level then refuse .badArgument s
    else if level = 7 ∧ (s.port p).cls = .ordinary then refuse .notPermitted s
    else if tag = 0xFFFF then refuse .badArgument s
    else if s.tagLive p tag then refuse .tagInUse s
    else if Config.queueSize ≤ s.queue.length then refuse .retry s
    else
      match useRaise n s with
      | none => refuse .wrongState s
      | some t => join { level := level, port := p, ask := .play tag n (field2 body 4) } t

/-- REQUEST_DIRECT (R65). -/
def requestDirect (p : PortId) : List Byte → State → State × Answer := ofLength 1 fun body s =>
  let level := field1 body 0
  if level = 0 ∨ 6 < level then refuse .badArgument s
  else if s.hasDirect p then refuse .wrongState s
  else if Config.queueSize ≤ s.queue.length then refuse .retry s
  else join { level := level, port := p, ask := .direct } s

/-! ## Entries leaving the queue (R67, R68, R69, R74, R75) -/

/-- The use release of a removed PLAY entry; a DIRECT entry holds no use (R68, R74, R75). -/
def releaseEntry (s : State) (e : Entry) : State :=
  match e.ask with
  | .play _ n _ => useRelease n s
  | .direct => s

/-- A PLAY entry is removed by a CANCEL: its use is released, and its submitter is told when another port asked (R68). -/
def removeEntry (p : PortId) (e : Entry) (s : State) : State :=
  let t := releaseEntry { s with queue := s.queue.erase e } e
  if e.port = p then t else t.notify e.port (.entryRemoved .cancelled e)

/-- What the queue makes of a CANCEL: an answer, or the passing of the request to the player at a place (R67). -/
inductive CancelOutcome where
  | answer (r : State × Answer)
  | pass (place : Place)

/-- The checks of CANCEL, in order (R67, R68). -/
def cancelChecks (p : PortId) (body : List Byte) (s : State) : CancelOutcome :=
  if body.length ≠ 3 then .answer (refuse .badLength s)
  else if tagAt body 1 = 0xFFFF then
    if (s.port p).cls = .control then .pass .passedFallback else .answer (refuse .notPermitted s)
  else
    match portOf (field1 body 0) with
    | none => .answer (refuse .badArgument s)
    | some q =>
      if (s.port p).cls = .ordinary ∧ q ≠ p then .answer (refuse .notPermitted s)
      else
        match s.queue.find? (Entry.isPlay q (tagAt body 1)) with
        | some e => .answer (done [] (removeEntry p e s))
        | none => .pass .passedCancel

/-- Port p's request in execution stands at another place. -/
def State.moveRequest (s : State) (p : PortId) (place : Place) : State :=
  s.setPort p { s.port p with inExec := (s.port p).inExec.map fun e => { e with place := place } }

/-- CANCEL at the queue: answered, or passed to the player, whose reply ends it (R67). -/
def cancelAtQueue (p : PortId) (s : State) : State :=
  match s.request p .cancel (.atBlock .queue) with
  | none => s
  | some e =>
    if s.sessionEnded p e then s.reply p { status := .noSession, body := [] }
    else
      match cancelChecks p e.body s with
      | .answer r => r.1.reply p r.2
      | .pass place => s.moveRequest p place

/-- The withdrawal of a port's DIRECT entry (R69); no port has more than one (R65). -/
def withdraw (p : PortId) (s : State) : State := { s with queue := s.queue.filter fun e => !e.isDirect p }

/-- Entries leave the queue at a session end, with their use releases, head first, and no notice (R74). -/
def removeEntriesOf (p : PortId) (s : State) : State :=
  let t := { s with queue := s.queue.filter fun e => e.port != p }
  (s.queue.filter fun e => e.port == p).foldl releaseEntry t

/-- One entry removed by a player reset: its use release, then its notice (R75). -/
def resetEntry (s : State) (e : Entry) : State :=
  (releaseEntry s e).notify e.port (.entryRemoved .playerReset e)

/-- The queue removes every entry at a player reset, head first (R75). -/
def resetQueue (s : State) : State := s.queue.foldl resetEntry { s with queue := [] }

/-! ## QUEUE_STATUS (R70) -/

/-- QUEUE_STATUS (R70). -/
def queueStatus : List Byte → State → State × Answer := ofLength 0 fun _ s =>
  done (u8 s.player.holdLevel ++ u8 s.queue.length ++ (s.queue.map entryRecord).flatten) s

/-! ## Meanings -/

/-- SUBMIT (R62, R63): after the reply the queue asks the player to select. -/
def execSubmit (p : PortId) (s : State) : Result := .next (serveThen .submit p (submit p) askSelect s)

/-- REQUEST_DIRECT (R65): after the reply the queue asks the player to select. -/
def execRequestDirect (p : PortId) (s : State) : Result :=
  .next (serveThen .requestDirect p (requestDirect p) askSelect s)

def execCancel (p : PortId) (s : State) : Result := .next (cancelAtQueue p s)
def execQueueStatus (p : PortId) (s : State) : Result := .next (serve .queueStatus p queueStatus s)

/-- SESSION_END_QUEUE (R74). -/
def execSessionEndQueue (p : PortId) (s : State) : Result :=
  .next (takeAnnouncement .queue p (removeEntriesOf p) s)

end Sys2Proof.Machine
end

