-- ==== Sys2Proof/Machine/Direct.lean ====
section
/-! DEFINITION. Direct-mode control: accepting, showing, releasing, and the timers of an offer and of a show
(spec/08_direct_mode.md). It acts inside the player's actions. -/

namespace Sys2Proof.Machine

/-! ## Accepting (R137) -/

/-- ACCEPT_DIRECT (R137): the offer's port holds direct mode under the offer's holding number (R95), with an empty show
list, and the latches are cleared. -/
def acceptDirect (p : PortId) : List Byte → State → State × Answer := ofLength 0 fun _ s =>
  match s.player.out with
  | .offering n o =>
    if o.port = p then
      done (u8 o.level) ((clearLatches s).setOut (.direct n { port := p, level := o.level, shows := [], timer := none }))
    else refuse .wrongState s
  | _ => refuse .wrongState s

/-! ## Shows (R138, R139) -/

/-- The holder of direct mode as the other blocks name it. -/
def Direct.ref (d : Direct) (number : Nat) : HolderRef := { who := .direct d.port, number := number }

/-- The load request of a show (R139). -/
def loadShow (number : Nat) (d : Direct) (x : Show) (s : State) : State :=
  loadRequest (d.ref number) x.number.toNat x.slot x.verify s

/-- The head show, when its plane is LOADED, goes to the swap (R139, R140). -/
def swapHead (s : State) : State :=
  match s.player.out with
  | .direct n d =>
    match d.shows with
    | x :: rest =>
      if x.stage = .loaded then
        swapRequest (d.ref n) x.number.toNat x.slot
          (s.setOut (.direct n { d with shows := { x with stage := .swapping } :: rest }))
      else s
    | [] => s
  | _ => s

/-- The fields of a SHOW, if they pass its third check (R138). -/
def showOf (body : List Byte) : Option Show := do
  let slot ← slotOf (field2 body 1)
  let mask ← maskOf (field1 body 5)
  let verify ← boolOf (field1 body 6)
  if field2 body 3 = 0 then none
  else some { number := byteAt body 0, slot := slot, hold := field2 body 3, mask := mask, verify := verify
              stage := .waiting }

/-- A new show is staged at once when the list is empty or its head is in HOLD (R138). -/
def Direct.stagesNew (d : Direct) : Bool :=
  match d.shows with
  | [] => true
  | x :: _ => x.stage == .hold

/-- A show whose pin is raised joins the tail of the list (R138). -/
def joinShow (number : Nat) (d : Direct) (x : Show) (s : State) : State :=
  if d.stagesNew then
    let y := { x with stage := .staging }
    loadShow number d y (s.setOut (.direct number { d with shows := d.shows ++ [y] }))
  else s.setOut (.direct number { d with shows := d.shows ++ [x] })

/-- SHOW (R138): the checks in order, the pin raise, and the joining. -/
def showPlane (p : PortId) : List Byte → State → State × Answer := ofLength 7 fun body s =>
  match s.player.out with
  | .direct n d =>
    if d.port = p then
      match showOf body with
      | none => refuse .badArgument s
      | some x =>
        if d.shows.any (fun y => y.number == x.number) then refuse .badArgument s
        else if Config.maxShows ≤ d.shows.length then refuse .retry s
        else
          match pinRaise [x.slot] s with
          | .error _ => refuse .wrongState s
          | .ok t => done (u8 d.shows.length) (joinShow n d x t)
    else refuse .wrongState s
  | _ => refuse .wrongState s

/-- A show that has joined an empty list is a head that enters STAGING: a preemptible point (R140). -/
def selectForHead (s : State) : State :=
  match s.player.out with
  | .direct _ d => if d.shows.length = 1 then select s else s
  | _ => s

/-- A show's LOADED answer (R139). -/
def showLoaded (number : Nat) (d : Direct) (idx : Nat) (s : State) : State :=
  let mark := fun (x : Show) => if x.stage = .staging ∧ x.number.toNat = idx then { x with stage := .loaded } else x
  swapHead (s.setOut (.direct number { d with shows := d.shows.map mark }))

/-- The head show's SWAPPED answer: sync pulse, lights, show timer, HOLD, and the load of a second show that waits
(R139). -/
def showSwapped (number : Nat) (d : Direct) (x : Show) (rest : List Show) (s : State) : State :=
  let t := lightRequest (d.ref number) x.mask (syncPulse s)
  let d' := { d with timer := some (x.hold * Config.holdUnit) }
  let head := { x with stage := .hold }
  match rest with
  | y :: more =>
    if y.stage = .waiting then
      let y' := { y with stage := .staging }
      loadShow number d y' (t.setOut (.direct number { d' with shows := head :: y' :: more }))
    else t.setOut (.direct number { d' with shows := head :: rest })
  | [] => t.setOut (.direct number { d' with shows := [head] })

/-- The end of the head show's hold (R140). -/
def endShow (s : State) : State :=
  match s.player.out with
  | .direct n d =>
    match d.shows with
    | x :: rest =>
      let t := pinRelease [x.slot] ((lightsOff s).notify d.port (.showDone x.number x.slot))
      let t := select (t.setOut (.direct n { d with shows := rest, timer := none }))
      if t.player.out.number? = some n then swapHead t else t
    | [] => s
  | _ => s

/-! ## Releasing (R142) -/

/-- RELEASE_DIRECT (R142): the withdrawal first, then the offer or the holding. The first byte of the reply says which was
ended (R175). -/
def releaseDirect (p : PortId) : List Byte → State → State × Answer := ofLength 0 fun _ s =>
  if s.queue.any (Entry.isDirect p) then done (u8 0 ++ u8 0) (withdraw p s)
  else
    match s.player.out with
    | .offering _ o => if o.port = p then done (u8 1 ++ u8 0) (endDirect s) else refuse .wrongState s
    | .direct _ d =>
      if d.port = p then done (u8 2 ++ u8 d.shows.length) (endDirect s) else refuse .wrongState s
    | _ => refuse .wrongState s

/-! ## The timers (R136, R140) -/

/-- The offer window. -/
def Output.window? : Output → Option Nat
  | .offering _ o => o.window
  | _ => none

/-- The show timer. -/
def Output.showTimer? : Output → Option Nat
  | .direct _ d => d.timer
  | _ => none

/-! ## Meanings -/

/-- ACCEPT_DIRECT (R137): selection follows the reply. -/
def execAcceptDirect (p : PortId) (s : State) : Result := .next (serveThen .acceptDirect p (acceptDirect p) select s)

/-- SHOW (R138): a head that enters STAGING is a preemptible point (R140). -/
def execShow (p : PortId) (s : State) : Result := .next (serveThen .showPlane p (showPlane p) selectForHead s)

/-- RELEASE_DIRECT (R142): selection follows the ending of an offer or a holding; a withdrawal is no occasion for it
(R81). -/
def execReleaseDirect (p : PortId) (s : State) : Result :=
  .next (serveThen .releaseDirect p (releaseDirect p) (if s.queue.any (Entry.isDirect p) then id else select) s)

/-- OFFER_WINDOW_EXPIRY (R136). -/
def execOfferWindowExpiry (s : State) : Result :=
  .next (expire s.player.out.window? (fun s => select (endDirectWith .lapsed none s)) s)

/-- SHOW_TIMER_EXPIRY (R140). -/
def execShowTimerExpiry (s : State) : Result := .next (expire s.player.out.showTimer? endShow s)

end Sys2Proof.Machine
end

