-- ==== Sys2Proof/Machine/Player.lean ====
section
/-! DEFINITION. The player's events and host requests (spec/05_the_player.md). -/

namespace Sys2Proof.Machine

/-! ## Aborts (R94, R98, R101) -/

/-- The running context is silenced and its submitter told; for the fallback context every CONTROL port is told (R94,
R98). -/
def abortNotice (number : Nat) (c : Context) (reason : EndReason) (s : State) : State :=
  let t := silence number s
  match s.player.out with
  | .fallback _ _ => t.notifyControl (.fallbackEnded reason)
  | _ => t.notifySubmitter c.port (.contextAborted c.tag (.ended reason) c.idx c.late)

/-- The running context is cancelled (R94, R98): its use is released and the player is IDLE. -/
def abortRunning (number : Nat) (c : Context) (s : State) : State :=
  (useRelease c.seq (abortNotice number c .cancelled s)).setOut .idle

/-- A suspended context is removed, the others keeping their order (R94). -/
def abortSuspended (c : Context) (s : State) : State :=
  let t := { s with player := { s.player with stack := s.player.stack.erase c } }
  useRelease c.seq (t.notifySubmitter c.port (.contextAborted c.tag (.ended .cancelled) c.idx c.late))

/-- CANCEL of a suspended context (R94). -/
def cancelSuspended (p : PortId) (tag : Word16) (s : State) : State × Answer :=
  match s.player.stack.find? (Context.named p tag) with
  | some c => done [] (abortSuspended c s)
  | none => refuse .badArgument s

/-- CANCEL at the player (R94): the current context, else a suspended one. -/
def cancelContext (body : List Byte) (s : State) : State × Answer :=
  match portOf (field1 body 0) with
  | none => refuse .badArgument s
  | some q =>
    match s.player.out with
    | .running n c =>
      if c.named q (tagAt body 1) then done [] (abortRunning n c s) else cancelSuspended q (tagAt body 1) s
    | _ => cancelSuspended q (tagAt body 1) s

/-- CANCEL of the fallback context (R98). -/
def cancelFallback (_ : List Byte) (s : State) : State × Answer :=
  match s.player.out with
  | .fallback n c => done [] (abortRunning n c s)
  | _ => refuse .wrongState s

/-- Selection when a holder has just ended. -/
def selectIfIdle (s : State) : State := if s.player.out = .idle then select s else s

/-! ## Host requests (R72, R97, R100, R101, R102) -/

/-- SET_HOLD_LEVEL (R72). -/
def setHoldLevel (p : PortId) : List Byte → State → State × Answer := ofLength 1 <| controlOnly p fun body s =>
  if 6 < field1 body 0 then refuse .badArgument s
  else done (u8 s.player.holdLevel) { s with player := { s.player with holdLevel := field1 body 0 } }

/-- The reference of the designation replaced is released (R97). -/
def releaseDesignated (d : Option SeqId) (s : State) : State :=
  match d with
  | some n => useRelease n s
  | none => s

def State.designate (s : State) (d : Option SeqId) : State := { s with player := { s.player with designated := d } }

/-- SET_FALLBACK (R97): the raise comes before the release. -/
def setFallback (p : PortId) : List Byte → State → State × Answer := ofLength 1 <| controlOnly p fun body s =>
  let old := s.player.designated
  if field1 body 0 = 0xFF then done (opt 1 seqByte old) ((releaseDesignated old s).designate none)
  else
    match seqOf (field1 body 0) with
    | none => refuse .badArgument s
    | some n =>
      if old = some n then done (opt 1 seqByte old) s
      else
        match useRaise n s with
        | none => refuse .wrongState s
        | some t => done (opt 1 seqByte old) ((releaseDesignated old t).designate (some n))

/-- CLEAR_HALT (R100). -/
def clearHalt (p : PortId) : List Byte → State → State × Answer := ofLength 0 <| controlOnly p fun _ s =>
  if s.player.out = .halted then done [] { s with player := { s.player with out := .idle, haltRecord := none } }
  else refuse .wrongState s

/-- A suspended context is told of a player reset (R101, step 2). -/
def resetSuspended (s : State) (c : Context) : State :=
  s.notifySubmitter c.port (.contextAborted c.tag (.ended .playerReset) c.idx c.late)

/-- The sequences whose contexts a player reset removes: the running context's, then the stack's, top first (R101). -/
def resetUses (s : State) : List SeqId :=
  (match s.player.out.context? with | some (_, c) => [c.seq] | none => []) ++ s.player.stack.map Context.seq

/-- The holder of the output ends at a player reset (R101, step 1). -/
def resetHolder (s : State) : State :=
  match s.player.out with
  | .running n c => abortNotice n c .playerReset s
  | .fallback n c => abortNotice n c .playerReset s
  | _ => endDirectWith .playerReset none s

/-- RESET_PLAYER, in the order of R101; the restart is asked before the blank (R127). -/
def resetPlayer (p : PortId) : List Byte → State → State × Answer := ofLength 0 <| controlOnly p fun _ s =>
  let uses := resetUses s
  let t := resetHolder s
  let t := t.player.stack.foldl resetSuspended t
  let t := resetQueue (uses.foldl (fun u n => useRelease n u) t)
  let t := clearLatches (blankRequest (restartLink (resetLights t)))
  done (u8 uses.length ++ u8 s.queue.length)
    { t with player := { t.player with
      out := .idle, stack := [], holdTimer := none, gapTimer := none, faultRecord := none, haltRecord := none } }

/-- The waiting-for-link condition: IDLE with the link unavailable (R77). -/
def Player.waitingForLink (x : Player) : Bool := x.out == .idle && !x.linkUp

/-- The port and level of the offer or of the direct holder (R102). -/
def directField (o : Output) : List Byte :=
  match o.directParty with
  | some (p, level, _) => portByte p ++ u8 level
  | none => absent 2

/-- PLAYER_STATUS (R102). -/
def playerStatus : List Byte → State → State × Answer := ofLength 0 fun _ s =>
  let x := s.player
  done (u8 x.out.code ++ flag x.waitingForLink ++ u8 x.holdLevel ++ opt 1 seqByte x.designated
    ++ opt 12 (fun q => contextRecord q.2) x.out.context? ++ directField x.out
    ++ u8 x.stack.length ++ (x.stack.reverse.map contextRecord).flatten
    ++ faultField x.faultRecord ++ faultField x.haltRecord) s

/-! ## Answers of the other blocks (R88, R89, R90, R139) -/

/-- A LOADED answer (R88, R139): one for another holding, or for a step not in STAGING, is discarded (R95). -/
def takeLoaded (number idx : Nat) (s : State) : State :=
  match s.player.out with
  | .running n c => if n = number ∧ c.phase = some .staging ∧ c.idx = idx then endStaging n c s else s
  | .fallback n c => if n = number ∧ c.phase = some .staging ∧ c.idx = idx then endStaging n c s else s
  | .direct n d => if n = number then showLoaded n d idx s else s
  | _ => s

/-- A latch consumption (R89). -/
def takeConsumption (number : Nat) (s : State) : State :=
  match s.player.out.context? with
  | some (n, c) =>
    if n = number ∧ c.phase = some .waiting then
      match stepOf s c c.idx with
      | some x => beginSwap n c x s
      | none => s
    else s
  | none => s

/-- A context in HOLD still awaits its SWAPPED answer while its hold timer has not started (R90). -/
def Context.awaitsSwap (c : Context) (idx : Nat) (timer : Option Nat) : Bool :=
  c.phase == some .hold && c.idx == idx && timer.isNone

/-- A SWAPPED answer (R90, R139). -/
def takeSwapped (number idx : Nat) (s : State) : State :=
  match s.player.out with
  | .running n c => if n = number ∧ c.awaitsSwap idx s.player.holdTimer = true then showStep n c s else s
  | .fallback n c => if n = number ∧ c.awaitsSwap idx s.player.holdTimer = true then showStep n c s else s
  | .direct n d =>
    match d.shows with
    | x :: rest => if n = number ∧ x.stage = .swapping ∧ x.number.toNat = idx then showSwapped n d x rest s else s
    | [] => s
  | _ => s

/-- The end of a hold (R91). -/
def holdEnds (s : State) : State :=
  match s.player.out.context? with
  | some (n, c) => if c.phase = some .hold then endHold n c s else s
  | none => s

/-- The end of a gap (R92). -/
def gapEnds (s : State) : State :=
  match s.player.out.context? with
  | some (n, c) => if c.phase = some .gap then endGap n c (stopTimers s) else s
  | none => s

/-- The end of a port's session ends its offer or holding, with no notice (R143). -/
def sessionEndPlayer (p : PortId) (s : State) : State :=
  if s.player.out.directOf p then select (endDirect s) else s

/-! ## Meanings -/

/-- SET_HOLD_LEVEL (R72): selection follows the reply. -/
def execSetHoldLevel (p : PortId) (s : State) : Result := .next (serveThen .setHoldLevel p (setHoldLevel p) select s)
def execSetFallback (p : PortId) (s : State) : Result := .next (serve .setFallback p (setFallback p) s)

/-- CLEAR_HALT (R100): selection follows the reply. -/
def execClearHalt (p : PortId) (s : State) : Result := .next (serveThen .clearHalt p (clearHalt p) select s)
def execResetPlayer (p : PortId) (s : State) : Result := .next (serve .resetPlayer p (resetPlayer p) s)
def execPlayerStatus (p : PortId) (s : State) : Result := .next (serve .playerStatus p playerStatus s)

/-- CANCEL_CONTEXT (R94): the player's part of a CANCEL the queue has passed on. Selection follows the end of a current
context. -/
def execCancelContext (p : PortId) (s : State) : Result :=
  .next (serveAt .cancel .passedCancel p cancelContext selectIfIdle s)

/-- CANCEL_FALLBACK (R98). -/
def execCancelFallback (p : PortId) (s : State) : Result :=
  .next (serveAt .cancel .passedFallback p cancelFallback selectIfIdle s)

/-- SESSION_END_PLAYER (R103, R143). -/
def execSessionEndPlayer (p : PortId) (s : State) : Result :=
  .next (takeAnnouncement .player p (sessionEndPlayer p) s)

/-- SELECT_REQUEST (R81): the queue's oldest request to select. -/
def execSelectRequest (s : State) : Result :=
  .next (if s.selects = 0 then s else select { s with selects := s.selects - 1 })

/-- LOADED_TAKEN (R88): the oldest thing the link has handed the player is a LOADED answer. -/
def execLoadedTaken (s : State) : Result :=
  .next (match s.fromLink with
    | .loaded n i :: rest => takeLoaded n i { s with fromLink := rest }
    | _ => s)

/-- CONSUMPTION_TAKEN (R89). -/
def execConsumptionTaken (s : State) : Result :=
  .next (match s.fromTrig with
    | .consumption n :: rest => takeConsumption n { s with fromTrig := rest }
    | _ => s)

/-- SWAPPED_TAKEN (R90, R139). -/
def execSwappedTaken (s : State) : Result :=
  .next (match s.fromLink with
    | .swapped n i :: rest => takeSwapped n i { s with fromLink := rest }
    | _ => s)

/-- HOLD_TIMER_EXPIRY (R91). -/
def execHoldTimerExpiry (s : State) : Result := .next (expire s.player.holdTimer holdEnds s)

/-- GAP_TIMER_EXPIRY (R92). -/
def execGapTimerExpiry (s : State) : Result := .next (expire s.player.gapTimer gapEnds s)

/-- FAULT_TAKEN (R95, R96, R99): the oldest thing the block named has handed the player is a fault. The fault that comes
with a report of unavailability is taken with its report (R119, R121; notes/assumptions/20.md). -/
def execFaultTaken (src : FaultSource) (s : State) : Result :=
  .next (match src with
    | .link =>
      match s.fromLink with
      | .fault f :: rest => takeFault f { s with fromLink := rest }
      | .report available rf :: rest =>
        if rf = .none then s else takeReport available rf { s with fromLink := rest }
      | _ => s
    | .trigger =>
      match s.fromTrig with
      | .fault f :: rest => takeFault f { s with fromTrig := rest }
      | _ => s
    | .lights =>
      match s.fromLights with
      | f :: rest => takeFault f { s with fromLights := rest }
      | [] => s)

/-- LINK_REPORT_TAKEN (R77). -/
def execLinkReportTaken (s : State) : Result :=
  .next (match s.fromLink with
    | .report available rf :: rest => takeReport available rf { s with fromLink := rest }
    | _ => s)

end Sys2Proof.Machine
end

