-- ==== Sys2Proof/Machine/Resets.lean ====
section
/-! DEFINITION. Chip reset: the assertion of RESET_n and its release (R21, R37, R58, R76, R104, R105, R118, R129, R133,
R144, R152, R153). -/

namespace Sys2Proof.Machine

/-- The class a strap gives: high makes a port CONTROL (R152). -/
def classOf (straps : BitVec 4) (p : PortId) : PortClass := if straps.getLsbD p.val then .control else .ordinary

/-- The four ports, each from its number and its old record. -/
def State.eachPort (s : State) (f : PortId → Port → Port) : State :=
  { s with ports := ⟨#[f 0 s.ports[0], f 1 s.ports[1], f 2 s.ports[2], f 3 s.ports[3]], rfl⟩ }

/-- The classes as the straps give them (R152). -/
def sampleClasses (straps : BitVec 4) (s : State) : State := s.eachPort fun p q => { q with cls := classOf straps p }

/-- The assertion of RESET_n: every block returns to its reset state; the PRSTn_n pins stay as the hosts drive them, a
transaction in progress is ended and ignored to its rise (R145, R147), and the commands that wait are not the part's. -/
def chipReset (straps : BitVec 4) (s : State) : State :=
  { State.reset with
    ports := (s.eachPort fun p q =>
      { Port.afterReset (classOf straps p) q.prstLow with txn := q.txn.map Txn.ended }).ports
    pending := s.pending }

/-- The plane link at the release (R118): with DRV_RDY high a BLANK is sent, and otherwise the link is DOWN; the player's
view of the link is the availability of that state, with no report. -/
def releaseLink (drvRdy : Bool) (s : State) : State :=
  { s with
    link := if drvRdy then Link.afterReset.sendBlank else Link.afterReset
    player := { s.player with linkUp := drvRdy } }

/-- The release of RESET_n (R37, R105, R118, R152): the scan begins in a loader still in its reset state. -/
def resetRelease (straps : BitVec 4) (drvRdy trgA trgB : Bool) (s : State) : State :=
  let t := sampleClasses straps
    { s with resetLow := false, lib := Loader.afterReset, trig := { s.trig with levelA := trgA, levelB := trgB } }
  startScan (releaseLink drvRdy t)

/-! ## Meanings -/

/-- CHIP_RESET (R153). -/
def execChipReset (straps : BitVec 4) (s : State) : Result := .next (chipReset straps s)

/-- RESET_RELEASE: the line rises only from low. -/
def execResetRelease (straps : BitVec 4) (drvRdy trgA trgB : Bool) (s : State) : Result :=
  .next (if s.resetLow then resetRelease straps drvRdy trgA trgB s else s)

end Sys2Proof.Machine
end

