-- ==== Sys2Proof/Machine/Dispatch.lean ====
section
/-! DEFINITION. The meaning of every command: one arm for each row of spec/opcode_table.json. -/

namespace Sys2Proof.Machine

def exec (i : Instr) (s : State) : Host.Outcome State Fault Refusal :=
  match i with
  | .write p bytes => Sys2Proof.Machine.execWrite p bytes s
  | .read p clocked => Sys2Proof.Machine.execRead p clocked s
  | .readAgain p clocked => Sys2Proof.Machine.execReadAgain p clocked s
  | .portReset p => Sys2Proof.Machine.execPortReset p s
  | .prstFall p => Sys2Proof.Machine.execPrstFall p s
  | .prstRise p => Sys2Proof.Machine.execPrstRise p s
  | .chipReset straps => Sys2Proof.Machine.execChipReset straps s
  | .resetRelease straps drvRdy trgA trgB => Sys2Proof.Machine.execResetRelease straps drvRdy trgA trgB s
  | .replyArrival p => Sys2Proof.Machine.execReplyArrival p s
  | .noticeArrival p => Sys2Proof.Machine.execNoticeArrival p s
  | .openSession p => Sys2Proof.Machine.execOpenSession p s
  | .closeSession p => Sys2Proof.Machine.execCloseSession p s
  | .deviceInfo p => Sys2Proof.Machine.execDeviceInfo p s
  | .allocateSlot p => Sys2Proof.Machine.execAllocateSlot p s
  | .openFill p => Sys2Proof.Machine.execOpenFill p s
  | .writePlane p => Sys2Proof.Machine.execWritePlane p s
  | .closeFill p => Sys2Proof.Machine.execCloseFill p s
  | .abandonFill p => Sys2Proof.Machine.execAbandonFill p s
  | .freeSlot p => Sys2Proof.Machine.execFreeSlot p s
  | .slotStatus p => Sys2Proof.Machine.execSlotStatus p s
  | .libraryStatus p => Sys2Proof.Machine.execLibraryStatus p s
  | .libraryEntry p => Sys2Proof.Machine.execLibraryEntry p s
  | .rescanLibrary p => Sys2Proof.Machine.execRescanLibrary p s
  | .loadPlanes p => Sys2Proof.Machine.execLoadPlanes p s
  | .cancelLoad p => Sys2Proof.Machine.execCancelLoad p s
  | .createSequence p => Sys2Proof.Machine.execCreateSequence p s
  | .appendSteps p => Sys2Proof.Machine.execAppendSteps p s
  | .removeSteps p => Sys2Proof.Machine.execRemoveSteps p s
  | .setRepeat p => Sys2Proof.Machine.execSetRepeat p s
  | .sealSequence p => Sys2Proof.Machine.execSealSequence p s
  | .unsealSequence p => Sys2Proof.Machine.execUnsealSequence p s
  | .deleteSequence p => Sys2Proof.Machine.execDeleteSequence p s
  | .sequenceStatus p => Sys2Proof.Machine.execSequenceStatus p s
  | .readSteps p => Sys2Proof.Machine.execReadSteps p s
  | .submit p => Sys2Proof.Machine.execSubmit p s
  | .requestDirect p => Sys2Proof.Machine.execRequestDirect p s
  | .cancel p => Sys2Proof.Machine.execCancel p s
  | .cancelContext p => Sys2Proof.Machine.execCancelContext p s
  | .cancelFallback p => Sys2Proof.Machine.execCancelFallback p s
  | .queueStatus p => Sys2Proof.Machine.execQueueStatus p s
  | .setHoldLevel p => Sys2Proof.Machine.execSetHoldLevel p s
  | .setFallback p => Sys2Proof.Machine.execSetFallback p s
  | .clearHalt p => Sys2Proof.Machine.execClearHalt p s
  | .resetPlayer p => Sys2Proof.Machine.execResetPlayer p s
  | .playerStatus p => Sys2Proof.Machine.execPlayerStatus p s
  | .configureTriggers p => Sys2Proof.Machine.execConfigureTriggers p s
  | .trigger p => Sys2Proof.Machine.execTrigger p s
  | .triggerStatus p => Sys2Proof.Machine.execTriggerStatus p s
  | .configureLights p => Sys2Proof.Machine.execConfigureLights p s
  | .linkStatus p => Sys2Proof.Machine.execLinkStatus p s
  | .acceptDirect p => Sys2Proof.Machine.execAcceptDirect p s
  | .showPlane p => Sys2Proof.Machine.execShow p s
  | .releaseDirect p => Sys2Proof.Machine.execReleaseDirect p s
  | .sessionEndPlaneStore p => Sys2Proof.Machine.execSessionEndPlaneStore p s
  | .sessionEndLoader p => Sys2Proof.Machine.execSessionEndLoader p s
  | .sessionEndSequences p => Sys2Proof.Machine.execSessionEndSequences p s
  | .sessionEndQueue p => Sys2Proof.Machine.execSessionEndQueue p s
  | .sessionEndPlayer p => Sys2Proof.Machine.execSessionEndPlayer p s
  | .flashBurstDone data => Sys2Proof.Machine.execFlashBurstDone data s
  | .flashAnswerTimeout => Sys2Proof.Machine.execFlashAnswerTimeout s
  | .selectRequest => Sys2Proof.Machine.execSelectRequest s
  | .loadedTaken => Sys2Proof.Machine.execLoadedTaken s
  | .consumptionTaken => Sys2Proof.Machine.execConsumptionTaken s
  | .swappedTaken => Sys2Proof.Machine.execSwappedTaken s
  | .syncPulseEnd => Sys2Proof.Machine.execSyncPulseEnd s
  | .holdTimerExpiry => Sys2Proof.Machine.execHoldTimerExpiry s
  | .gapTimerExpiry => Sys2Proof.Machine.execGapTimerExpiry s
  | .faultTaken src => Sys2Proof.Machine.execFaultTaken src s
  | .linkReportTaken => Sys2Proof.Machine.execLinkReportTaken s
  | .recognisedLevelChange input level => Sys2Proof.Machine.execRecognisedLevelChange input level s
  | .triggerTimeoutExpiry => Sys2Proof.Machine.execTriggerTimeoutExpiry s
  | .drvRdyFall => Sys2Proof.Machine.execDrvRdyFall s
  | .drvRdyRise => Sys2Proof.Machine.execDrvRdyRise s
  | .answerTimerExpiry => Sys2Proof.Machine.execAnswerTimerExpiry s
  | .loadTransmissionEnd damage => Sys2Proof.Machine.execLoadTransmissionEnd damage s
  | .loadedAnswer => Sys2Proof.Machine.execLoadedAnswer s
  | .rejectedAnswer reason => Sys2Proof.Machine.execRejectedAnswer reason s
  | .swappedAnswer => Sys2Proof.Machine.execSwappedAnswer s
  | .blankedAnswer => Sys2Proof.Machine.execBlankedAnswer s
  | .lightLimitExpiry ch => Sys2Proof.Machine.execLightLimitExpiry ch s
  | .offerWindowExpiry => Sys2Proof.Machine.execOfferWindowExpiry s
  | .showTimerExpiry => Sys2Proof.Machine.execShowTimerExpiry s
  | .directionByteEnd p first => Sys2Proof.Machine.execDirectionByteEnd p first s
  | .startToken => Sys2Proof.Machine.execStartToken s

end Sys2Proof.Machine
end

