-- ==== Sys2Proof/Machine/Idle.lean ====
section
/-! DEFINITION. What the part does when no command waits: its own next event, or the passing of 1 µs (DESIGN CHOICE,
notes/assumptions/3.md). The rows of these events are commands as well, so a queue may give them in any order; the order
here is one of those the spec allows. -/

namespace Sys2Proof.Machine

/-- The event of a port, if one is due: the oldest thing it has been handed, else a request it executes itself. -/
def portEvent (s : State) (p : PortId) : Option Instr :=
  let q := s.port p
  match q.inbox with
  | .reply _ _ :: _ => some (.replyArrival p)
  | .notice _ :: _ => some (.noticeArrival p)
  | [] =>
    match q.inExec, q.inbound with
    | none, r :: _ =>
      match Command.ofCode r.code with
      | some .openSession => some (.openSession p)
      | some .closeSession => some (.closeSession p)
      | some .deviceInfo => some (.deviceInfo p)
      | _ => none
    | _, _ => none

/-- The row that executes a command at its block. -/
def Command.row (p : PortId) : Command → Instr
  | .openSession => .openSession p | .closeSession => .closeSession p | .deviceInfo => .deviceInfo p
  | .allocateSlot => .allocateSlot p | .openFill => .openFill p | .writePlane => .writePlane p
  | .closeFill => .closeFill p | .abandonFill => .abandonFill p | .freeSlot => .freeSlot p
  | .slotStatus => .slotStatus p
  | .libraryStatus => .libraryStatus p | .libraryEntry => .libraryEntry p | .rescanLibrary => .rescanLibrary p
  | .loadPlanes => .loadPlanes p | .cancelLoad => .cancelLoad p
  | .createSequence => .createSequence p | .appendSteps => .appendSteps p | .removeSteps => .removeSteps p
  | .setRepeat => .setRepeat p | .sealSequence => .sealSequence p | .unsealSequence => .unsealSequence p
  | .deleteSequence => .deleteSequence p | .sequenceStatus => .sequenceStatus p | .readSteps => .readSteps p
  | .submit => .submit p | .requestDirect => .requestDirect p | .cancel => .cancel p | .queueStatus => .queueStatus p
  | .setHoldLevel => .setHoldLevel p | .setFallback => .setFallback p | .clearHalt => .clearHalt p
  | .resetPlayer => .resetPlayer p | .playerStatus => .playerStatus p
  | .configureTriggers => .configureTriggers p | .trigger => .trigger p | .triggerStatus => .triggerStatus p
  | .configureLights => .configureLights p | .linkStatus => .linkStatus p
  | .acceptDirect => .acceptDirect p | .showPlane => .showPlane p | .releaseDirect => .releaseDirect p

/-- The row that executes port p's request in execution, at the place where it stands. -/
def requestEvent (s : State) (p : PortId) : Option Instr :=
  match (s.port p).inExec with
  | none => none
  | some e =>
    if s.mayTake p e then
      match e.place with
      | .atBlock _ => (Command.ofCode e.code).map (Command.row p)
      | .passedCancel => some (.cancelContext p)
      | .passedFallback => some (.cancelFallback p)
      | .answered => none
    else none

/-- The row by which a block takes a session-end announcement. -/
def Announcement.row (x : Announcement) : Option Instr :=
  match x.block with
  | .store => some (.sessionEndPlaneStore x.port)
  | .loader => some (.sessionEndLoader x.port)
  | .table => some (.sessionEndSequences x.port)
  | .queue => some (.sessionEndQueue x.port)
  | .player => some (.sessionEndPlayer x.port)
  | .trigger | .lights | .link => none

/-- The row by which the player takes the oldest thing the link has handed it. -/
def LinkEvent.row : LinkEvent → Instr
  | .loaded _ _ => .loadedTaken
  | .swapped _ _ => .swappedTaken
  | .fault _ => .faultTaken .link
  | .report _ _ => .linkReportTaken

/-- The row by which the player takes the oldest thing the trigger unit has handed it. -/
def TrigEvent.row : TrigEvent → Instr
  | .consumption _ => .consumptionTaken
  | .fault _ => .faultTaken .trigger

/-- A row whose timer has run out. -/
def dueRow (t : Option Nat) (i : Instr) : Option Instr := if t = some 0 then some i else none

/-- The timers of the part that have run out. -/
def timerEvent (s : State) : Option Instr :=
  dueRow s.player.holdTimer .holdTimerExpiry
    <|> dueRow s.player.gapTimer .gapTimerExpiry
    <|> dueRow s.player.out.showTimer? .showTimerExpiry
    <|> dueRow s.player.out.window? .offerWindowExpiry
    <|> (if s.link.state.awaiting then dueRow s.link.timer .answerTimerExpiry else none)
    <|> dueRow (s.trig.wait.bind Wait.timer) .triggerTimeoutExpiry
    <|> dueRow s.trig.sync .syncPulseEnd
    <|> dueRow (s.lib.burst.bind Burst.timer) .flashAnswerTimeout
    <|> (List.finRange 4).findSome? fun c => dueRow (s.light c).left (.lightLimitExpiry c)

/-- The part's own next event. -/
def ownEvent (s : State) : Option Instr :=
  (List.finRange 4).findSome? (portEvent s)
    <|> s.announcements.findSome? Announcement.row
    <|> (List.finRange 4).findSome? (requestEvent s)
    <|> (if s.selects = 0 then none else some .selectRequest)
    <|> s.fromLink.head?.map LinkEvent.row
    <|> s.fromTrig.head?.map TrigEvent.row
    <|> (if s.fromLights.isEmpty then none else some (.faultTaken .lights))
    <|> timerEvent s

/-- With nothing due, 1 µs passes; while RESET_n is low the part stands still (R153). -/
def tick (s : State) : State := if s.resetLow then s else s.elapse 1

end Sys2Proof.Machine
end

