-- ==== Sys2Proof/Machine/Step.lean ====
section
/-! DEFINITION. One step of the part: the command at the front of the queue, or, when none waits, the part's own next
event or the passing of 1 µs. -/

namespace Sys2Proof.Machine

/-- With no command waiting the part runs its own next event, and with none due 1 µs passes (DESIGN CHOICE,
notes/assumptions/3.md). -/
def idle (s : State) : Host.Outcome State Fault Refusal :=
  match ownEvent s with
  | some i => exec i s
  | none => .next (tick s)

/-- One step. -/
def step (s : State) : Host.Outcome State Fault Refusal :=
  match s.pending with
  | i :: rest => exec i { s with pending := rest }
  | [] => idle s

/-- The command a word spells, put at the front of the queue; no row of the table gives bits, so none is spelt. -/
def State.withFetchWord (s : State) (nbits w : Nat) : State :=
  match Sys2Proof.decodeTableWord nbits w with
  | some i => { s with pending := i :: s.pending }
  | none => s

end Sys2Proof.Machine
end

