-- ==== Sys2Proof/Safety.lean ====
section
/-! DEFINITION. What holds of the part at every moment, block by block, in the terms the statements use; and when a request
stands ready at its block. -/

namespace Sys2Proof.Machine

/-! ## Requests -/

/-- Port p's request in execution is the command given with the body given, stands at the place given, may be taken by
its block, and its session is open (R154, R157). -/
def Asked (s : State) (p : PortId) (cmd : Command) (place : Place) (body : List Byte) : Prop :=
  ∃ e, (s.port p).inExec = some e ∧ Command.ofCode e.code = some cmd ∧ e.place = place ∧ e.body = body
    ∧ s.mayTake p e = true ∧ (s.port p).sessionOpen = true ∧ (s.port p).sessionNo = e.session

/-- The status and body of a reply; a notice is none. -/
def Handed.reply? : Handed → Option (Status × List Byte)
  | .reply st body => some (st, body)
  | .notice _ => none

/-- The replies handed to a port and not yet taken, oldest first. -/
def State.repliesTo (s : State) (p : PortId) : List (Status × List Byte) := (s.port p).inbox.filterMap Handed.reply?

/-- The row that executes port p's request at the place where it stands (R67, R172). -/
def rowAt (p : PortId) (cmd : Command) : Place → Option Instr
  | .atBlock b => if cmd.block = some b then some (Command.row p cmd) else none
  | .passedCancel => if cmd = .cancel then some (.cancelContext p) else none
  | .passedFallback => if cmd = .cancel then some (.cancelFallback p) else none
  | .answered => none

/-- The request frame that carries a request, after the direction byte (R173). -/
def Request.frame (r : Request) : List Byte :=
  let inner := r.tag :: r.code :: (le2 r.body.length ++ r.body)
  0xA5 :: (inner ++ le2 (crc16 inner).toNat)

/-! ## Plane store -/

/-- The plane memory is in its canonical form. -/
abbrev MemoryCanonical (s : State) : Prop := Memory.wf s.planeMem

/-- A slot record agrees with its state (R1, R2): owner, pin count and orphan flag. -/
abbrev SlotOk (x : Slot) : Prop :=
  match x.content with
  | .free => x = Slot.free
  | .held => x.owner.isSome = true ∧ x.pins = 0 ∧ x.orphan = false
  | .filling progress _ => x.owner.isSome = true ∧ x.pins = 0 ∧ x.orphan = false ∧ progress ≤ Config.planeBytes
  | .loading _ _ => x.pins = 0 ∧ x.orphan = false
  | .ready _ _ => x.orphan = x.owner.isNone

/-- The shows of the show list (R133). -/
def Output.shows : Output → List Show
  | .direct _ d => d.shows
  | _ => []

/-- The references to a slot: the steps of all sequences that name it, and the shows that name it (R11). -/
def slotReferences (s : State) (n : SlotId) : Nat :=
  ((List.finRange 32).map fun q => (s.seq q).steps.countP fun x => x.slot == n).sum
    + s.player.out.shows.countP fun x => x.slot == n

/-- Every slot agrees with its state, its pin count is the number of references to it, and only EMPTY sequences are without
a record of their own (R2, R11, R39). -/
abbrev PinsCounted (s : State) : Prop :=
  (∀ n, SlotOk (s.slot n) ∧ (s.slot n).pins = slotReferences s n)
    ∧ ∀ q, (s.seq q).state = .empty → (s.seq q).steps = []

/-! ## Sequence table -/

/-- A sequence record agrees with its state (R39). -/
abbrev SeqOk (x : Sequence) : Prop :=
  match x.state with
  | .empty => x = Sequence.empty
  | .opened => x.owner.isSome = true ∧ x.uses = 0 ∧ x.orphan = false ∧ x.steps.length ≤ Config.maxSteps
  | .sealed => x.orphan = x.owner.isNone ∧ 1 ≤ x.steps.length ∧ x.steps.length ≤ Config.maxSteps

/-- Every step record is free or held by one sequence (R41), and every sequence agrees with its state (R39). -/
abbrev PoolBalanced (s : State) : Prop :=
  s.poolFree + ((List.finRange 32).map fun q => (s.seq q).steps.length).sum = Config.poolSize
    ∧ ∀ q, SeqOk (s.seq q)

/-- The entry asks for the sequence. -/
def Entry.names (q : SeqId) (e : Entry) : Bool :=
  match e.ask with
  | .play _ n _ => n == q
  | .direct => false

/-- The running context, as a list of none or one. -/
def Output.contexts (o : Output) : List Context :=
  match o.context? with
  | some (_, c) => [c]
  | none => []

/-- The references to a sequence: queue entries, contexts, and the designation (R53). -/
def seqReferences (s : State) (q : SeqId) : Nat :=
  s.queue.countP (Entry.names q) + (s.player.out.contexts ++ s.player.stack).countP (fun c => c.seq == q)
    + if s.player.designated = some q then 1 else 0

/-- The present holding number has been given (R95). -/
abbrev Player.numberGiven (x : Player) : Prop :=
  match x.out.number? with
  | some n => n ≤ x.lastNumber
  | none => True

/-- Every use count is the number of references, and a sequence with a use is SEALED (R53); the present holding number has
been given (R95). -/
abbrev UsesCounted (s : State) : Prop :=
  s.player.numberGiven ∧ ∀ q, (s.seq q).uses = seqReferences s q ∧ (0 < (s.seq q).uses → (s.seq q).state = .sealed)

/-! ## Host ports -/

/-- The replies in the outbound queue. -/
def Port.replyCount (q : Port) : Nat := q.outbound.countP fun x => x.kind == .reply

/-- A port's accounts: the outstanding count is the number of requests waiting, in execution and not stale, and answered
but not delivered, and at most 4; at most 16 notices are queued; item numbers rise by 1 from head to tail; only a request in
execution is stale; and a READ under way sends the head of the queue (R147, R161, R167, R168). -/
abbrev Port.accounted (q : Port) : Prop :=
  q.outstanding = q.inbound.length + (if q.inExec.isSome = true ∧ q.stale = false then 1 else 0) + q.replyCount
    ∧ q.outstanding ≤ Config.maxOutstanding
    ∧ q.noticeCount ≤ Config.maxNotices
    ∧ (∀ i : Fin q.outbound.length, (q.outbound[i]).number = q.nextNumber - BitVec.ofNat 16 (q.outbound.length - i.val))
    ∧ (q.stale = true → q.inExec.isSome = true)
    ∧ (match q.txn with
      | some (.reading .read _ x) => x.kind ≠ .empty → q.outbound.head? = some x
      | _ => True)

/-- Every port's accounts agree. -/
abbrev PortsAccounted (s : State) : Prop := ∀ p, (s.port p).accounted

/-! ## Submission queue and suspension stack -/

/-- An entry's level lies in its range (R59). -/
abbrev Entry.inRange (e : Entry) : Prop :=
  1 ≤ e.level ∧ match e.ask with | .play _ _ _ => e.level ≤ 7 | .direct => e.level ≤ 6

/-- The level of a holder that levels concern: none for the fallback context and when nothing holds the output. -/
def Output.level? : Output → Option Nat
  | .running _ c => some (c.level.getD 0)
  | .offering _ o => some o.level
  | .direct _ d => some d.level
  | _ => none

/-- Levels rise strictly from the bottom of the stack to the top, from 1 to at most 6, and on to the holder (R80); the
stack is kept top first. -/
abbrev Player.stackOrdered (x : Player) : Prop :=
  x.stack.Pairwise (fun c d => d.level.getD 0 < c.level.getD 0)
    ∧ (∀ c ∈ x.stack, 1 ≤ c.level.getD 0 ∧ c.level.getD 0 ≤ 6)
    ∧ match x.out.level? with
      | some l => 1 ≤ l ∧ l ≤ 7 ∧ ∀ c ∈ x.stack, c.level.getD 0 < l
      | none => True

/-- The queue is ordered and within its size, and the stack and the holder are ordered by level (R59, R60, R80); the present
holding number has been given (R95). -/
abbrev LevelsOrdered (s : State) : Prop :=
  s.queue.Pairwise (fun d e => e.level ≤ d.level) ∧ s.queue.length ≤ Config.queueSize ∧ (∀ e ∈ s.queue, e.inRange)
    ∧ s.player.stackOrdered ∧ s.player.numberGiven

/-! ## Lights -/

/-- Something is on display in its hold: a context in HOLD, or a direct holder whose head show is in HOLD. -/
def Output.inHold : Output → Bool
  | .running _ c => c.phase == some .hold
  | .fallback _ c => c.phase == some .hold
  | .direct _ d => match d.shows with | x :: _ => x.stage == .hold | [] => false
  | _ => false

/-- A channel is lit only in a hold (R129), and the present holding number has been given (R95). -/
abbrev LightsInHold (s : State) : Prop :=
  (∀ c, (s.light c).on = true → s.player.out.inHold = true)
    ∧ s.player.numberGiven

/-! ## Plane link -/

/-- The identity's stage is one of the two given, or there is no identity. -/
def Link.identityIn (l : Link) (a b : Stage) : Bool :=
  match l.identity with
  | some i => i.stage == a || i.stage == b
  | none => true

/-- The plane link agrees with itself: the answer timer runs exactly while an answer is awaited; a link that is DOWN or
FAILED has no identity and ignores nothing; an IDLE link has nothing left to send; while an answer belongs to no holder, or
BLANKED is awaited, the identity is not under way (R117, R119, R121, R123, R126, R127). -/
abbrev LinkConsistent (s : State) : Prop :=
  (s.link.timer.isSome = s.link.state.awaiting)
    ∧ (s.link.state = .down ∨ s.link.state = .failed → s.link.identity = none ∧ s.link.ignore = false)
    ∧ (s.link.state = .idle →
        s.link.pendingBlank = false ∧ s.link.ignore = false ∧ s.link.identityIn .loaded .loaded = true)
    ∧ (s.link.ignore = true → s.link.identityIn .pending .pending = true)
    ∧ (s.link.state = .awaitBlanked → s.link.ignore = false ∧ s.link.identityIn .pending .loaded = true)

/-! ## Trigger unit -/

/-- A wait exists only while its latch is clear (R113), and an overrun is flagged only on a set latch (R108). -/
abbrev LatchesConsistent (s : State) : Prop :=
  (match s.trig.wait with
    | some w => (s.trig.latch w.source).pending = false
    | none => True)
    ∧ (s.trig.latchA.overrun = true → s.trig.latchA.pending = true)
    ∧ (s.trig.latchB.overrun = true → s.trig.latchB.pending = true)
    ∧ (s.trig.latchSoft.overrun = true → s.trig.latchSoft.pending = true)

/-! ## Library loader -/

/-- The loader agrees with itself: it scans exactly in SCANNING; its image is empty unless it is VALID; jobs exist only
while it is VALID, at most 8, and the head is running (R22, R32). -/
abbrev LoaderConsistent (s : State) : Prop :=
  s.lib.scan.isSome = (s.lib.state == .scanning)
    ∧ (s.lib.state ≠ .valid → s.lib.entries = [] ∧ s.lib.dirCrc = 0)
    ∧ (s.lib.jobs ≠ [] → s.lib.state = .valid)
    ∧ s.lib.jobs.length ≤ Config.maxJobs
    ∧ s.lib.run.isSome = !s.lib.jobs.isEmpty

end Sys2Proof.Machine
end

