-- ==== Sys2Proof/Certificates/Slice0/Obligations.lean ====
section
/-! DEFINITION. What is claimed of the part, family by family. Statements of what a command does give the whole next state,
so that whatever the equation does not name is unchanged; statements of every step concern the invariants of
Sys2Proof/Safety.lean. -/

open Sys2Proof Sys2Proof.Machine

/-! ## The queue of commands -/

/-- A step runs the command at the front of the queue, on the state with the rest of the queue. -/
def Obligations.StepRunsFrontCommand : Prop :=
  ∀ (s : State) (c : Instr) (rest : List Instr),
    s.pending = c :: rest → step s = exec c { s with pending := rest }

/-! ## Frames and records -/

/-- R160, R173: a frame passes the checks exactly when it is the frame of a request with a tag other than 0 and a body of at
most 1024 bytes. -/
def Obligations.FrameChecksAcceptExactlyFrames : Prop :=
  ∀ (bytes : List Byte) (r : Request),
    checkFrame bytes = some r ↔
      r.duplicate = false ∧ r.tag ≠ 0 ∧ r.body.length ≤ 1024 ∧ bytes = r.frame

/-! ## Host ports -/

/-- R145, R146, R160, R161, R162: a WRITE taken at its rise: a good frame below the outstanding limit joins the inbound list,
marked by its tag, and the oldest request may start; a good frame at the limit and a bad frame only set their flags. The tags
it is compared with are those of the inbound list, of the request in execution unless stale, and of the queued replies. A WRITE
that is ignored, or ends while a reset line is low, changes nothing and 00h has been sent throughout. A WRITE row with no
DIRECTION_BYTE_END before it is a whole transaction (the model's choice, notes/assumptions/10.md). -/
def Obligations.WriteJudgesItsFrame : Prop :=
  ∀ (s : State) (p : PortId) (bytes : List Byte),
    let q := s.port p
    let ended : Port := { q with txn := none, sdo := List.replicate bytes.length (0 : Byte) }
    (s.portListens p = true → (q.txn = none ∨ q.txn = some .write) →
      (∀ r, checkFrame bytes = some r → q.outstanding < 4 →
        exec (.write p bytes) s = .next (s.setPort p
          ({ ended with
            outstanding := q.outstanding + 1
            inbound := q.inbound ++ [{ r with duplicate := q.outstandingTags.contains r.tag }] } : Port).start))
      ∧ (∀ r, checkFrame bytes = some r → 4 ≤ q.outstanding →
        exec (.write p bytes) s = .next (s.setPort p { ended with rejected := true }))
      ∧ (checkFrame bytes = none →
        exec (.write p bytes) s = .next (s.setPort p { ended with badFrame := true })))
    ∧ (∀ tag, tag ∈ q.outstandingTags ↔
        (∃ r ∈ q.inbound, r.tag = tag) ∨ (∃ e, q.inExec = some e ∧ q.stale = false ∧ e.tag = tag)
          ∨ ∃ x ∈ q.outbound, x.kind = .reply ∧ x.tag = tag)
    ∧ (q.txn = some (.ignored .write)
        ∨ (s.portListens p = false ∧ (q.txn = none ∨ q.txn = some .write)) →
      exec (.write p bytes) s = .next (s.setPort p ended))

/-- R154, R162, R163: how the oldest request starts. A duplicate, an unknown code and, without a session, a request that
needs one are answered by the port, and the next one starts; a command of the port's own waits at the head for its step; any
other request is handed to its block with the session number. Nothing starts while a request is in execution. That a command
of the port's own stays at the head until its step is notes/assumptions/11.md. -/
def Obligations.RequestsStartInOrder : Prop :=
  ∀ (q : Port) (r : Request) (rest : List Request),
    (q.inExec.isSome = true → q.start = q)
    ∧ (q.inExec = none → q.inbound = [] → q.start = q)
    ∧ (q.inExec = none → q.inbound = r :: rest →
      (r.duplicate = true → q.start = ({ q with inbound := rest }.joinReply r.tag .tagInUse []).start)
      ∧ (r.duplicate = false → Command.ofCode r.code = none →
          q.start = ({ q with inbound := rest }.joinReply r.tag .unknownCommand []).start)
      ∧ (∀ cmd, r.duplicate = false → Command.ofCode r.code = some cmd → cmd.block = none → q.start = q)
      ∧ (∀ cmd b, r.duplicate = false → Command.ofCode r.code = some cmd → cmd.block = some b →
          (q.sessionOpen = false → q.start = ({ q with inbound := rest }.joinReply r.tag .noSession []).start)
          ∧ (q.sessionOpen = true →
            q.start =
              { q with
                inbound := rest
                inExec := some { tag := r.tag, code := r.code, body := r.body, session := q.sessionNo, place := .atBlock b } })))

/-- R145, R147, R149, R173, R174: at the end of the direction byte 02h of a READ the port fixes the head of its outbound queue,
or the EMPTY item, and at that of 03h of a READ_AGAIN the last-delivered item; and it fixes the status byte of that moment.
The direction bytes 01h and 0Fh begin a WRITE and a PORT_RESET. A transaction that began while a reset line was low is
ignored to its rise, and one of any other direction byte is ignored and leaves nothing in progress. The port has sent 00h while
the direction byte was clocked, and after it sends what it has fixed, or 00h throughout when it has fixed nothing. -/
def Obligations.DirectionByteEndFixesWhatIsSent : Prop :=
  ∀ (s : State) (p : PortId), (s.port p).txn = none →
    let q := s.port p
    let begins (byte : Byte) (t : Txn) : Prop :=
      exec (.directionByteEnd p { value := byte, begunLow := false }) s =
        .next (s.setPort p { q with txn := some t, sdo := [] })
    let status (more : Bool) : Nat :=
      q.outstanding + (if more = true then 8 else 0) + (if q.rejected = true then 16 else 0)
        + (if q.badFrame = true then 32 else 0) + (if q.sessionOpen = true then 64 else 0)
    (s.portListens p = true →
      begins 0x01 .write ∧ begins 0x0F .portReset
      ∧ (q.outstanding ≤ 4 →
        (∃ st : Byte, st.toNat = status (decide (2 ≤ q.outbound.length)) ∧ begins 0x02
          (.reading .read st (match q.outbound with | x :: _ => x | [] => Item.emptyItem q.nextNumber)))
        ∧ (∃ st : Byte, st.toNat = status (decide (1 ≤ q.outbound.length)) ∧ begins 0x03
          (.reading .readAgain st (match q.lastDelivered with | some x => x | none => Item.emptyItem q.nextNumber)))))
    ∧ (∀ (low : Bool), (low = true ∨ s.portListens p = false) →
        ∀ x ∈ [((0x01 : Byte), Direction.write), (0x02, .read), (0x03, .readAgain), (0x0F, .portReset)],
          exec (.directionByteEnd p { value := x.1, begunLow := low }) s =
            .next (s.setPort p { q with txn := some (.ignored x.2), sdo := [] }))
    ∧ (∀ (byte : Byte) (low : Bool), byte ≠ 0x01 → byte ≠ 0x02 → byte ≠ 0x03 → byte ≠ 0x0F →
        exec (.directionByteEnd p { value := byte, begunLow := low }) s = .next (s.setPort p { q with sdo := [] }))
    ∧ (∀ (first : DirectionByte) (t : State), exec (.directionByteEnd p first) s = .next t →
        t.sdOut p 0 = 0x00
        ∧ ∀ i, t.sdOut p (i + 1) =
            (match (t.port p).txn with | some (.reading _ st x) => st :: x.bytes | _ => []).getD i 0x00)

/-- R145, R147, R148: the rise that ends a READ clears the flags when the status byte was clocked, and delivers the item exactly
when every byte of it was clocked; the rise that ends a READ_AGAIN only clears the flags; one that is ignored changes nothing.
A READ or READ_AGAIN row with no DIRECTION_BYTE_END before it is a whole transaction (the model's choice,
notes/assumptions/10.md). -/
def Obligations.ReadDeliversWhatWasClocked : Prop :=
  ∀ (s : State) (p : PortId) (n : Nat),
    let q := s.port p
    let ignored := s.setPort p { q with txn := none, sdo := List.replicate n (0 : Byte) }
    (∀ (kind : ReadKind) (status : Byte) (x : Item), s.portListens p = true → q.txn = some (.reading kind status x) →
      let ended : Port :=
        { q with
          txn := none
          sdo := (status :: x.bytes).take n ++ List.replicate (n - (x.body.length + 11)) (0 : Byte)
          rejected := q.rejected && n == 0
          badFrame := q.badFrame && n == 0 }
      (kind = .read →
        exec (.read p n) s = .next (s.setPort p
          (if x.kind ≠ .empty ∧ x.body.length + 11 ≤ n then
            { ended with
              outbound := q.outbound.tail, lastDelivered := some x
              outstanding := if x.kind = .reply then q.outstanding - 1 else q.outstanding }
          else ended)))
      ∧ (kind = .readAgain → exec (.readAgain p n) s = .next (s.setPort p ended)))
    ∧ (q.txn = some (.ignored .read) → exec (.read p n) s = .next ignored)
    ∧ (q.txn = some (.ignored .readAgain) → exec (.readAgain p n) s = .next ignored)
    ∧ (q.txn = none → s.portListens p = true → ∀ t,
      (exec (.directionByteEnd p { value := 0x02, begunLow := false }) s = .next t →
          exec (.read p n) s = exec (.read p n) t)
      ∧ (exec (.directionByteEnd p { value := 0x03, begunLow := false }) s = .next t →
          exec (.readAgain p n) s = exec (.readAgain p n) t))

/-- R145, R151, R157: a port reset, by a PORT_RESET transaction or a fall of PRSTn_n, empties the port, ends an open session with
its five announcements, and marks a request in execution stale; a transaction in progress at the fall is ignored to its rise;
the rise of PRSTn_n makes the port listen again. The port sends 00h throughout a PORT_RESET, so no byte sent is listed. A
PORT_RESET row with no DIRECTION_BYTE_END before it is a whole transaction (the model's choice, notes/assumptions/10.md). -/
def Obligations.PortResetEmptiesThePort : Prop :=
  ∀ (s : State) (p : PortId),
    let q := s.port p
    let emptied : Port :=
      { q with
        sessionOpen := false, inbound := [], outbound := [], outstanding := 0, rejected := false, badFrame := false
        lastDelivered := none, nextNumber := 0, lostMark := false, stale := q.inExec.isSome }
    let announced : List Announcement :=
      if q.sessionOpen then
        s.announcements ++ [Block.store, .loader, .table, .queue, .player].map fun b =>
          { block := b, port := p, session := q.sessionNo }
      else s.announcements
    (s.portListens p = true → (q.txn = none ∨ q.txn = some .portReset) →
      exec (.portReset p) s = .next
        ({ s with announcements := announced }.setPort p { emptied with txn := none, sdo := [] }))
    ∧ (q.txn = some (.ignored .portReset) →
      exec (.portReset p) s = .next (s.setPort p { q with txn := none, sdo := [] }))
    ∧ (q.prstLow = false →
      exec (.prstFall p) s = .next ({ s with announcements := announced }.setPort p
        { emptied with
          prstLow := true
          txn := match q.txn with
            | none => none
            | some .write => some (.ignored .write)
            | some .portReset => some (.ignored .portReset)
            | some (.reading .read _ _) => some (.ignored .read)
            | some (.reading .readAgain _ _) => some (.ignored .readAgain)
            | some (.ignored d) => some (.ignored d) }))
    ∧ exec (.prstRise p) s = .next (s.setPort p { q with prstLow := false })

/-- R158, R164, R167, R168: the port takes the reply of its request in execution: the reply joins the outbound queue under
the next item number, or is discarded under the stale mark; either way the next request may start. -/
def Obligations.ReplyArrivalEndsTheRequest : Prop :=
  ∀ (s : State) (p : PortId) (st : Status) (body : List Byte) (rest : List Handed) (e : InExec),
    (s.port p).inbox = .reply st body :: rest → (s.port p).inExec = some e →
    let q := s.port p
    ((s.port p).stale = false →
      exec (.replyArrival p) s = .next (s.setPort p
        ({ q with
          inbox := rest, inExec := none, nextNumber := q.nextNumber + 1
          outbound := q.outbound ++
            [{ kind := .reply, tag := e.tag, number := q.nextNumber, code := st.code, lost := false, body := body }] } :
          Port).start))
    ∧ ((s.port p).stale = true →
      exec (.replyArrival p) s = .next (s.setPort p
        ({ q with inbox := rest, inExec := none, stale := false } : Port).start))

/-- R158, R168, R169: the port discards a notice without a session, drops it under the lost-notice mark when 16 notices are
queued, and otherwise queues it with the mark it clears. -/
def Obligations.NoticeArrivalQueuesOrDrops : Prop :=
  ∀ (s : State) (p : PortId) (x : Notice) (rest : List Handed), (s.port p).inbox = .notice x :: rest →
    let q := s.port p
    exec (.noticeArrival p) s = .next (s.setPort p
      (if q.sessionOpen = false then { q with inbox := rest }
      else if 16 ≤ q.noticeCount then { q with inbox := rest, lostMark := true }
      else
        { q with
          inbox := rest, nextNumber := q.nextNumber + 1, lostMark := false
          outbound := q.outbound ++
            [{ kind := .notice, tag := 0, number := q.nextNumber, code := x.code, lost := q.lostMark, body := x.body }] }))

/-- R155, R156, R157, R159, R163: OPEN_SESSION, CLOSE_SESSION and DEVICE_INFO, as the port executes them when they are next
to start: the reply joins the queue and the next request may start. That CLOSE_SESSION with a body is refused with BAD_LENGTH
even without a session is notes/assumptions/27.md; the widths of the session number and of the session state, and the values
of the latter, are notes/assumptions/19.md. -/
def Obligations.PortExecutesItsOwnCommands : Prop :=
  ∀ (s : State) (p : PortId) (r : Request) (rest : List Request),
    (s.port p).inExec = none → (s.port p).inbound = r :: rest → r.duplicate = false →
    let q : Port := { s.port p with inbound := rest }
    (Command.ofCode r.code = some .openSession →
      exec (.openSession p) s = .next (s.setPort p
        (if r.body ≠ [] then (q.joinReply r.tag .badLength []).start
        else if q.sessionOpen = true then (q.joinReply r.tag .wrongState []).start
        else
          ({ q with sessionOpen := true, sessionNo := q.sessionNo + 1 }.joinReply r.tag .done
            ([BitVec.ofNat 8 p.val, if q.cls = PortClass.control then 1 else 0] ++ le2 (q.sessionNo + 1).toNat ++ capacities)).start)))
    ∧ (Command.ofCode r.code = some .closeSession →
      exec (.closeSession p) s = .next
        (if r.body ≠ [] then s.setPort p (q.joinReply r.tag .badLength []).start
        else if q.sessionOpen = true then
          ({ s with announcements := s.announcements ++ [Block.store, .loader, .table, .queue, .player].map fun b =>
              ({ block := b, port := p, session := q.sessionNo } : Announcement) } : State).setPort p
            ({ q with sessionOpen := false }.joinReply r.tag .done []).start
        else s.setPort p (q.joinReply r.tag .noSession []).start))
    ∧ (Command.ofCode r.code = some .deviceInfo →
      exec (.deviceInfo p) s = .next (s.setPort p
        (if r.body ≠ [] then (q.joinReply r.tag .badLength []).start
        else
          (q.joinReply r.tag .done
            ([0x70, 0x09, 0x01, BitVec.ofNat 8 p.val, if q.cls = PortClass.control then 1 else 0,
                if q.sessionOpen = true then 1 else 0] ++ le2 q.sessionNo.toNat ++ capacities)).start)))

/-! ## Resets -/

/-- R21, R58, R76, R104, R105, R118, R129, R133, R144, R152, R153: what the assertion of RESET_n leaves, whatever was there
before; a transaction in progress is ignored to its rise (R145, R147). The link state, the library state, the recognised levels and the player's view of the link stand for values that the
release gives (notes/assumptions/1.md): nothing is said of them here. -/
def Obligations.ChipResetLeaves : Prop :=
  ∀ (s : State) (straps : BitVec 4), ∃ t : State,
    exec (.chipReset straps) s = .next t
    ∧ t.resetLow = true ∧ t.announcements = []
    ∧ (∀ p, t.port p =
        { cls := if straps.getLsbD p.val = true then .control else .ordinary
          sessionOpen := false, sessionNo := 0, inbound := [], inExec := none, stale := false, outbound := []
          outstanding := 0, rejected := false, badFrame := false, lastDelivered := none, nextNumber := 0
          lostMark := false, prstLow := (s.port p).prstLow, txn := (s.port p).txn.map Txn.ended, sdo := [], inbox := [] })
    ∧ (∀ n, t.slot n =
        { content := .free, owner := none, pins := 0, lastResult := .none, mismatches := 0, orphan := false })
    ∧ t.lib.jobs = [] ∧ t.lib.entries = [] ∧ t.lib.burst = none
    ∧ (∀ q, (t.seq q).state = .empty ∧ (t.seq q).owner = none ∧ (t.seq q).steps = [] ∧ (t.seq q).uses = 0
        ∧ (t.seq q).orphan = false)
    ∧ t.poolFree = 1024 ∧ t.queue = [] ∧ t.selects = 0
    ∧ t.player.out = .idle ∧ t.player.stack = [] ∧ t.player.designated = none ∧ t.player.holdLevel = 0
    ∧ t.player.holdTimer = none ∧ t.player.gapTimer = none ∧ t.player.faultRecord = none ∧ t.player.haltRecord = none
    ∧ t.player.lastNumber = 0
    ∧ t.trig.cfgA = { enabled := false, falling := false } ∧ t.trig.cfgB = { enabled := false, falling := false }
    ∧ t.trig.timeout = 0 ∧ t.trig.wait = none ∧ t.trig.sync = none
    ∧ (∀ x, t.trig.latch x = { pending := false, overrun := false })
    ∧ t.link.identity = none ∧ t.link.ignore = false ∧ t.link.pendingBlank = false ∧ t.link.timer = none
    ∧ t.link.display = .unknown
    ∧ (∀ c, t.light c = { on := false, holder := none, onTime := 0, limit := 0, trip := false })
    ∧ t.fromLink = [] ∧ t.fromTrig = [] ∧ t.fromLights = [] ∧ t.pending = s.pending

/-- R24, R37, R105, R118, R152: the release of RESET_n fixes the classes and the recognised levels, sends a BLANK or leaves
the link DOWN by DRV_RDY, and starts the library scan. -/
def Obligations.ResetReleaseStartsThePart : Prop :=
  ∀ (s : State) (straps : BitVec 4) (drvRdy trgA trgB : Bool), s.resetLow = true → ∃ t : State,
    exec (.resetRelease straps drvRdy trgA trgB) s = .next t
    ∧ t.resetLow = false
    ∧ (∀ p, t.port p = { s.port p with cls := if straps.getLsbD p.val = true then .control else .ordinary })
    ∧ t.trig = { s.trig with levelA := trgA, levelB := trgB }
    ∧ t.link.state = (if drvRdy then .awaitBlanked else .down)
    ∧ t.link.timer = (if drvRdy then some 2000 else none) ∧ t.link.sent = (if drvRdy then some .blank else none)
    ∧ t.link.identity = none ∧ t.link.ignore = false ∧ t.link.pendingBlank = false ∧ t.link.display = .unknown
    ∧ t.player = { s.player with linkUp := drvRdy }
    ∧ t.lib.state = .scanning ∧ t.lib.reason = .none ∧ t.lib.entries = [] ∧ t.lib.dirCrc = 0
    ∧ t.lib.burst = some { offset := 0, length := 10, timer := some 1000 }
    ∧ t.slots = s.slots ∧ t.seqs = s.seqs ∧ t.poolFree = s.poolFree ∧ t.queue = s.queue ∧ t.lights = s.lights
    ∧ t.planeMem = s.planeMem ∧ t.pending = s.pending

/-! ## What holds of every request at its block -/

/-- R3, R42, R61, R78, R94, R154: a request that reaches its block after its session has ended is answered NO_SESSION and
changes nothing else. -/
def Obligations.LateRequestsAnsweredNoSession : Prop :=
  ∀ (s : State) (p : PortId) (cmd : Command) (e : InExec) (i : Instr),
    (s.port p).inExec = some e → Command.ofCode e.code = some cmd → rowAt p cmd e.place = some i →
    s.mayTake p e = true → ((s.port p).sessionOpen = false ∨ (s.port p).sessionNo ≠ e.session) →
    exec i s = .next (s.reply p { status := .noSession, body := [] })

/-- R164, R165: every request at its block is answered once. A status other than DONE and CHECK_FAILED means that nothing
but the reply has changed; CHECK_FAILED leaves the slot that its CLOSE_FILL names HELD and changes nothing else. A CANCEL that
the queue does not settle is passed to the player (R67) and answered there. -/
def Obligations.EveryRequestIsAnsweredOnce : Prop :=
  ∀ (s : State) (p : PortId) (cmd : Command) (place : Place) (body : List Byte) (i : Instr),
    rowAt p cmd place = some i → Asked s p cmd place body → ∃ t : State,
      exec i s = .next t
      ∧ ((∃ b, t.repliesTo p = s.repliesTo p ++ [(.done, b)])
        ∨ (∃ st b, st ≠ .done ∧ st ≠ .checkFailed ∧ t = s.reply p { status := st, body := b })
        ∨ (∃ n b, cmd = .closeFill ∧ slotOf (field2 body 0) = some n
            ∧ t = (s.setSlot n { s.slot n with content := .held, lastResult := .checkFailed, mismatches := 0 }).reply p
                { status := .checkFailed, body := b })
        ∨ (∃ passed, cmd = .cancel ∧ place = .atBlock .queue ∧ (passed = .passedCancel ∨ passed = .passedFallback)
            ∧ t = s.moveRequest p passed))

/-- R3, R35, R42, R165, R172: the checks that come first. A body of another length than the command's is refused with
BAD_LENGTH; then a request reserved for CONTROL ports, of an ORDINARY port, with NOT_PERMITTED; then, for an owner-only request,
a slot number above 447 or a sequence number above 31 with BAD_ARGUMENT, and a slot or sequence of another owner with NOT_OWNER
(for CANCEL_LOAD when no job names the slot). LOAD_PLANES checks its length and then whether the library is VALID. -/
def Obligations.RequestsAreCheckedInOrder : Prop :=
  ∀ (s : State) (p : PortId) (cmd : Command) (b : Block) (i : Instr) (body : List Byte),
    rowAt p cmd (.atBlock b) = some i → Asked s p cmd (.atBlock b) body →
    let refused (st : Status) : Prop := exec i s = .next (s.reply p { status := st, body := [] })
    let slotChecked : Prop :=
      (447 < field2 body 0 → refused .badArgument)
      ∧ (∀ (n : SlotId) (more : List Byte), body = slotBytes n ++ more → (s.slot n).owner ≠ some p →
        (cmd = .cancelLoad → ∀ j ∈ s.lib.jobs, j.slot ≠ n) → refused .notOwner)
    let sequenceChecked : Prop :=
      ∀ (x : Byte) (more : List Byte), body = x :: more →
        (32 ≤ x.toNat → refused .badArgument)
        ∧ (∀ n : SeqId, x = BitVec.ofNat 8 n.val → (s.seq n).owner ≠ some p → refused .notOwner)
    (∀ len,
      (cmd, len) ∈
        [(Command.allocateSlot, 2), (.openFill, 2), (.closeFill, 6), (.abandonFill, 2), (.freeSlot, 2), (.slotStatus, 3),
          (.libraryStatus, 0), (.libraryEntry, 2), (.rescanLibrary, 0), (.cancelLoad, 2), (.createSequence, 3),
          (.removeSteps, 2), (.setRepeat, 3), (.sealSequence, 1), (.unsealSequence, 1), (.deleteSequence, 1),
          (.sequenceStatus, 2), (.readSteps, 3), (.submit, 6), (.requestDirect, 1), (.cancel, 3), (.queueStatus, 0),
          (.setHoldLevel, 1), (.setFallback, 1), (.clearHalt, 0), (.resetPlayer, 0), (.playerStatus, 0),
          (.configureTriggers, 6), (.trigger, 0), (.triggerStatus, 0), (.configureLights, 8), (.linkStatus, 0),
          (.acceptDirect, 0), (.showPlane, 7), (.releaseDirect, 0)] →
      (body.length ≠ len → refused .badLength)
      ∧ (body.length = len → (s.port p).cls = .ordinary →
        cmd ∈ [.rescanLibrary, .setHoldLevel, .setFallback, .clearHalt, .resetPlayer, .configureTriggers,
          .configureLights] → refused .notPermitted)
      ∧ (body.length = len → cmd ∈ [.openFill, .closeFill, .abandonFill, .freeSlot, .cancelLoad] → slotChecked)
      ∧ (body.length = len → cmd ∈ [.removeSteps, .setRepeat, .sealSequence, .unsealSequence, .deleteSequence] →
        sequenceChecked))
    ∧ (cmd = .writePlane →
      if 22 ≤ body.length ∧ body.length ≤ 1014 ∧ body.length % 16 = 6 then slotChecked else refused .badLength)
    ∧ (cmd = .appendSteps →
      if 1 ≤ (byteAt body 1).toNat ∧ (byteAt body 1).toNat ≤ 64 ∧ body.length = 2 + 8 * (byteAt body 1).toNat then
        sequenceChecked
      else refused .badLength)
    ∧ (cmd = .loadPlanes →
      (¬ (4 ≤ body.length ∧ body.length ≤ 32 ∧ body.length % 4 = 0) → refused .badLength)
      ∧ (4 ≤ body.length → body.length ≤ 32 → body.length % 4 = 0 →
        (s.lib.state = .scanning → refused .retry)
        ∧ ((s.lib.state = .absent ∨ s.lib.state = .invalid) → refused .libraryUnavailable)))

/-! ## Plane store -/

/-- R4, R5: ALLOCATE_SLOT, with its refusals: the slot named is claimed if it is FREE, and under FFFFh the lowest-numbered
FREE slot. -/
def Obligations.AllocateSlotClaims : Prop :=
  ∀ (s : State) (p : PortId) (body : List Byte), Asked s p .allocateSlot (.atBlock .store) body →
    let refused (st : Status) : Prop := exec (.allocateSlot p) s = .next (s.reply p { status := st, body := [] })
    let claims (n : SlotId) : Prop :=
      exec (.allocateSlot p) s = .next ((s.setSlot n
        { content := .held, owner := some p, pins := 0, lastResult := .none, mismatches := 0, orphan := false }).reply p
        { status := .done, body := slotBytes n })
    (body.length ≠ 2 → refused .badLength)
    ∧ (∀ v : Nat, 448 ≤ v → v < 65535 → body = le2 v → refused .badArgument)
    ∧ (∀ n : SlotId, body = slotBytes n → (s.slot n).content = .free → claims n)
    ∧ (∀ n : SlotId, body = slotBytes n → (s.slot n).content ≠ .free → refused .inUse)
    ∧ (∀ n : SlotId, body = [0xFF, 0xFF] → (s.slot n).content = .free → (∀ m, m < n → (s.slot m).content ≠ .free) →
        claims n)
    ∧ (body = [0xFF, 0xFF] → (∀ n, (s.slot n).content ≠ .free) → refused .exhausted)

/-- R6, R8: OPEN_FILL and CLOSE_FILL of the requester's slot n, in each of its states. OPEN_FILL makes a HELD slot, or a
READY slot that is not pinned, FILLING from the start, with its last result kept. CLOSE_FILL of a full fill makes it READY with
origin HOST under the expected CRC, and under another one HELD with last result CHECK_FAILED; the reply carries the CRC of the
bytes written. -/
def Obligations.FillsAreOpenedAndJudged : Prop :=
  ∀ (s : State) (p : PortId) (n : SlotId), (s.slot n).owner = some p →
    let x := s.slot n
    (Asked s p .openFill (.atBlock .store) (slotBytes n) →
      let filled := (s.setSlot n { x with content := .filling 0 0, mismatches := 0 }).reply p { status := .done, body := [] }
      (x.content = .held → exec (.openFill p) s = .next filled)
      ∧ (∀ c o, x.content = .ready c o → x.pins = 0 → exec (.openFill p) s = .next filled)
      ∧ (∀ c o, x.content = .ready c o → x.pins ≠ 0 →
          exec (.openFill p) s = .next (s.reply p { status := .inUse, body := [] }))
      ∧ (∀ k c, (x.content = .filling k c ∨ x.content = .loading k c) →
          exec (.openFill p) s = .next (s.reply p { status := .wrongState, body := [] })))
    ∧ (∀ expected, Asked s p .closeFill (.atBlock .store) (slotBytes n ++ crcBytes expected) →
      ((∀ crc, x.content ≠ .filling 65536 crc) →
        exec (.closeFill p) s = .next (s.reply p { status := .wrongState, body := [] }))
      ∧ (∀ crc, x.content = .filling 65536 crc →
        exec (.closeFill p) s = .next
          (if crc = expected then
            (s.setSlot n { x with content := .ready crc .host, lastResult := .none, mismatches := 0 }).reply p
              { status := .done, body := crcBytes crc }
          else
            (s.setSlot n { x with content := .held, lastResult := .checkFailed, mismatches := 0 }).reply p
              { status := .checkFailed, body := crcBytes crc })))

/-- R7: a WRITE_PLANE at the slot's progress, within the plane, puts its data there, carries the running CRC over them and
answers the new progress, and no other byte of the plane memory changes; one at another offset, or past the end of the plane,
writes nothing and answers the progress. -/
def Obligations.WritePlaneWritesInOrder : Prop :=
  ∀ (s : State) (p : PortId) (n : SlotId) (k offset : Nat) (crc : Crc32) (data : List Byte),
    16 ≤ data.length → data.length ≤ 1008 → data.length % 16 = 0 → offset < 4294967296 →
    (s.slot n).owner = some p → (s.slot n).content = .filling k crc →
    Asked s p .writePlane (.atBlock .store) (slotBytes n ++ le4 offset ++ data) →
    (offset = k → k + data.length ≤ 65536 → ∃ t : State,
      exec (.writePlane p) s = .next t
      ∧ (∀ i (h : i < data.length), memRead t.planeMem (planeAddr n (k + i)) = data[i])
      ∧ (∀ a, a < planeAddr n k ∨ planeAddr n (k + data.length) ≤ a → memRead t.planeMem a = memRead s.planeMem a)
      ∧ { t with planeMem := s.planeMem } =
          (s.setSlot n { s.slot n with content := .filling (k + data.length) (crc32Carry crc data) }).reply p
            { status := .done, body := le4 (k + data.length) })
    ∧ (offset ≠ k ∨ 65536 < k + data.length →
      exec (.writePlane p) s = .next (s.reply p { status := .badArgument, body := le4 k }))

/-- R9 (and R10): ABANDON_FILL and FREE_SLOT of the requester's slot n, in each of its states. -/
def Obligations.AbandonAndFree : Prop :=
  ∀ (s : State) (p : PortId) (n : SlotId), (s.slot n).owner = some p →
    let x := s.slot n
    let freed : State := s.setSlot n
      { content := .free, owner := none, pins := 0, lastResult := .none, mismatches := 0, orphan := false }
    let answers (i : Instr) (u : State) (st : Status) : Prop := exec i s = .next (u.reply p { status := st, body := [] })
    (Asked s p .abandonFill (.atBlock .store) (slotBytes n) →
      match x.content with
      | .filling _ _ =>
        answers (.abandonFill p) (s.setSlot n { x with content := .held, lastResult := .abandoned, mismatches := 0 }) .done
      | _ => answers (.abandonFill p) s .wrongState)
    ∧ (Asked s p .freeSlot (.atBlock .store) (slotBytes n) →
      match x.content with
      | .held => answers (.freeSlot p) freed .done
      | .filling _ _ => answers (.freeSlot p) freed .done
      | .ready _ _ => if x.pins = 0 then answers (.freeSlot p) freed .done else answers (.freeSlot p) s .inUse
      | .loading _ _ => answers (.freeSlot p) s .inUse
      | .free => True)

/-- R12, R13, R53, R54, R55: a pin raise raises every slot by the number of times it is named when all are READY, and
otherwise changes nothing and names the position of the first that is not; a pin release lowers every slot by the number of
times it is named, and then each orphan named that no reference is left to becomes FREE. A use raise needs a SEALED
sequence; the use release that brings an orphan to 0 empties it, and any other only lowers the count. -/
def Obligations.ReferencesAreRaisedAndReleased : Prop :=
  ∀ (s : State),
    (∀ (l : List SlotId),
      ((∀ n ∈ l, (s.slot n).isReady = true) → ∃ t : State,
        pinRaise l s = .ok t
        ∧ (∀ n, t.slot n = { s.slot n with pins := (s.slot n).pins + l.count n })
        ∧ { t with slots := s.slots } = s)
      ∧ (∀ (before after : List SlotId) (n : SlotId), l = before ++ n :: after →
          (∀ m ∈ before, (s.slot m).isReady = true) → (s.slot n).isReady = false →
          pinRaise l s = .error before.length)
      ∧ ((∀ n, l.count n ≤ (s.slot n).pins) →
        { pinRelease l s with slots := s.slots } = s
        ∧ ∀ n, (pinRelease l s).slot n =
            (if n ∈ l ∧ (s.slot n).pins = l.count n ∧ (s.slot n).orphan = true then Slot.free
            else { s.slot n with pins := (s.slot n).pins - l.count n })))
    ∧ (∀ (n : SeqId),
      let x := s.seq n
      (useRaise n s = if x.state = .sealed then some (s.setSeq n { x with uses := x.uses + 1 }) else none)
      ∧ (x.orphan = true → x.uses = 1 →
        useRelease n s = pinRelease (x.steps.map Step.slot)
          { s.setSeq n Sequence.empty with poolFree := s.poolFree + x.steps.length })
      ∧ (x.orphan = false ∨ 2 ≤ x.uses → useRelease n s = s.setSeq n { x with uses := x.uses - 1 }))

/-- R18: when the plane store takes the end of a port's session, each slot of that port changes by its state, and nothing
else of the part does. -/
def Obligations.SessionEndAtThePlaneStore : Prop :=
  ∀ (s : State) (p : PortId) (x : Announcement) (before after : List Announcement),
    s.announcements = before ++ x :: after → x.block = .store → x.port = p →
    (∀ y ∈ before, ¬ (y.block = .store ∧ y.port = p)) → ∃ t : State,
      exec (.sessionEndPlaneStore p) s = .next t
      ∧ { t with slots := s.slots } = { s with announcements := before ++ after }
      ∧ ∀ n, t.slot n =
          (if (s.slot n).owner = some p then
            match (s.slot n).content with
            | .loading _ _ => { s.slot n with owner := none }
            | .ready _ _ =>
              if 0 < (s.slot n).pins then { s.slot n with owner := none, orphan := true } else Slot.free
            | _ => Slot.free
          else s.slot n)

/-! ## Sequence table -/

/-- R43: CREATE_SEQUENCE claims the sequence named if it is EMPTY, and under FFh the lowest-numbered EMPTY one; a repeat
count of 0 means 1. A number from 32 to 254, a sequence that is not EMPTY, and FFh with none EMPTY are refused. -/
def Obligations.CreateSequenceClaims : Prop :=
  ∀ (s : State) (p : PortId) (count : Nat) (number : Byte), count < 65536 →
    Asked s p .createSequence (.atBlock .table) (number :: le2 count) →
    let refused (st : Status) : Prop := exec (.createSequence p) s = .next (s.reply p { status := st, body := [] })
    (∀ n : SeqId, (s.seq n).state = .empty →
      (number.toNat = n.val ∨ (number = 0xFF ∧ ∀ m, m < n → (s.seq m).state ≠ .empty)) →
      exec (.createSequence p) s = .next ((s.setSeq n
        { state := .opened, owner := some p, repeatCount := max 1 count, steps := [], uses := 0, orphan := false }).reply p
        { status := .done, body := seqByte n }))
    ∧ (32 ≤ number.toNat → number ≠ 0xFF → refused .badArgument)
    ∧ (∀ n : SeqId, number.toNat = n.val → (s.seq n).state ≠ .empty → refused .inUse)
    ∧ (number = 0xFF → (∀ n, (s.seq n).state ≠ .empty) → refused .exhausted)

/-- R44, R45: a batch of steps that passes every check joins an OPEN sequence whole: its steps, the pool's records and the
pins of its slots change together. The first failure refuses the batch with its position and changes nothing: a step with a
bad field, a step beyond the length or beyond the pool, a slot that is not READY; and a SEALED sequence takes no batch. That
the pin raise reaches the plane store whatever announcements wait there is the model's choice (notes/assumptions/37.md). -/
def Obligations.AppendStepsAddsTheBatch : Prop :=
  ∀ (s : State) (p : PortId) (n : SeqId),
    let x := s.seq n
    let good (y : Step) : Prop := 1 ≤ y.hold ∧ y.hold ≤ 65535 ∧ y.gap ≤ 65535
    let asked (count : Nat) (records : List Byte) : Prop :=
      Asked s p .appendSteps (.atBlock .table) ([BitVec.ofNat 8 n.val, BitVec.ofNat 8 count] ++ records)
    let refused (st : Status) (body : List Byte) : Prop :=
      exec (.appendSteps p) s = .next (s.reply p { status := st, body := body })
    x.owner = some p →
    (∀ batch : List Step, asked batch.length (batch.map stepRecord).flatten →
      1 ≤ batch.length → batch.length ≤ 64 → (∀ y ∈ batch, good y) →
      (x.state ≠ .opened → refused .wrongState [])
      ∧ (x.state = .opened → 255 < x.steps.length + batch.length → refused .badArgument [BitVec.ofNat 8 (255 - x.steps.length)])
      ∧ (x.state = .opened → x.steps.length + batch.length ≤ 255 → s.poolFree < batch.length →
        refused .exhausted [BitVec.ofNat 8 s.poolFree])
      ∧ (x.state = .opened → x.steps.length + batch.length ≤ 255 → batch.length ≤ s.poolFree →
        (∀ before y after, batch = before ++ y :: after → (∀ z ∈ before, (s.slot z.slot).isReady = true) →
          (s.slot y.slot).isReady = false → refused .wrongState [BitVec.ofNat 8 before.length])
        ∧ ((∀ y ∈ batch, (s.slot y.slot).isReady = true) → ∃ t : State,
          exec (.appendSteps p) s = .next t
          ∧ (∀ m, t.slot m = { s.slot m with pins := (s.slot m).pins + (batch.map Step.slot).count m })
          ∧ { t with slots := s.slots } =
              ({ s.setSeq n { x with steps := x.steps ++ batch } with poolFree := s.poolFree - batch.length } :
                State).reply p { status := .done, body := [BitVec.ofNat 8 (x.steps.length + batch.length)] })))
    ∧ (∀ (before : List Step) (slot hold gap : Nat) (advance mask : Byte) (after : List Byte) (count : Nat),
      asked count ((before.map stepRecord).flatten ++ (le2 slot ++ le2 hold ++ le2 gap ++ [advance, mask]) ++ after) →
      1 ≤ count → count ≤ 64 → 8 * count = 8 * before.length + 8 + after.length → (∀ z ∈ before, good z) →
      slot < 65536 → hold < 65536 → x.state = .opened →
      (448 ≤ slot ∨ hold = 0 ∨ 4 ≤ advance.toNat ∨ 16 ≤ mask.toNat % 128) →
      refused .badArgument [BitVec.ofNat 8 before.length])

/-- R41, R46, R50: REMOVE_STEPS takes the last k steps off an OPEN sequence, and DELETE_SEQUENCE empties one without a use;
the records return to the pool and the pins of the slots that left are released. -/
def Obligations.RemovedStepsReturnToThePool : Prop :=
  ∀ (s : State) (p : PortId) (n : SeqId),
    let x := s.seq n
    x.owner = some p →
    (∀ k, Asked s p .removeSteps (.atBlock .table) [BitVec.ofNat 8 n.val, BitVec.ofNat 8 k] → x.state = .opened →
      1 ≤ k → k ≤ x.steps.length → k ≤ 255 →
      exec (.removeSteps p) s = .next
        ((pinRelease ((x.steps.drop (x.steps.length - k)).map Step.slot)
          { s.setSeq n { x with steps := x.steps.take (x.steps.length - k) } with poolFree := s.poolFree + k }).reply p
          { status := .done, body := [BitVec.ofNat 8 (x.steps.length - k)] }))
    ∧ (Asked s p .deleteSequence (.atBlock .table) [BitVec.ofNat 8 n.val] →
        (x.state = .opened ∨ (x.state = .sealed ∧ x.uses = 0)) →
      exec (.deleteSequence p) s = .next
        ((pinRelease (x.steps.map Step.slot)
          { s.setSeq n
              { state := .empty, owner := none, repeatCount := 0, steps := [], uses := 0, orphan := false } with
            poolFree := s.poolFree + x.steps.length }).reply p
          { status := .done, body := [BitVec.ofNat 8 x.steps.length] }))
    ∧ (Asked s p .deleteSequence (.atBlock .table) [BitVec.ofNat 8 n.val] → x.state = .sealed → 0 < x.uses →
      exec (.deleteSequence p) s = .next (s.reply p { status := .inUse, body := [BitVec.ofNat 8 x.uses] }))

/-- R48 (and R47, R49): SET_REPEAT, SEAL_SEQUENCE and UNSEAL_SEQUENCE of the requester's sequence n, with their refusals. Once
sealed, the sequence grants the use raise of a submission or a designation, whichever port asks. -/
def Obligations.RepeatSealAndUnseal : Prop :=
  ∀ (s : State) (p : PortId) (n : SeqId),
    let x := s.seq n
    (∀ body, Asked s p .sealSequence (.atBlock .table) body →
      (body.length ≠ 1 → exec (.sealSequence p) s = .next (s.reply p { status := .badLength, body := [] }))
      ∧ (∀ k : Byte, body = [k] → 32 ≤ k.toNat →
        exec (.sealSequence p) s = .next (s.reply p { status := .badArgument, body := [] }))
      ∧ (body = [BitVec.ofNat 8 n.val] → x.owner ≠ some p →
        exec (.sealSequence p) s = .next (s.reply p { status := .notOwner, body := [] })))
    ∧ (x.owner = some p →
      (∀ count, Asked s p .setRepeat (.atBlock .table) (BitVec.ofNat 8 n.val :: le2 count) → count < 65536 →
        exec (.setRepeat p) s = .next
          (if x.state ≠ .opened then s.reply p { status := .wrongState, body := [] }
          else if count = 0 then s.reply p { status := .badArgument, body := [] }
          else (s.setSeq n { x with repeatCount := count }).reply p { status := .done, body := [] }))
      ∧ (Asked s p .sealSequence (.atBlock .table) [BitVec.ofNat 8 n.val] →
        exec (.sealSequence p) s = .next
          (if x.state ≠ .opened ∨ x.steps = [] then s.reply p { status := .wrongState, body := [] }
          else (s.setSeq n { x with state := .sealed }).reply p { status := .done, body := [] }))
      ∧ (∃ u, useRaise n ((s.setSeq n { x with state := .sealed }).reply p { status := .done, body := [] }) = some u)
      ∧ (Asked s p .unsealSequence (.atBlock .table) [BitVec.ofNat 8 n.val] →
        exec (.unsealSequence p) s = .next
          (if x.state ≠ .sealed then s.reply p { status := .wrongState, body := [] }
          else if x.uses ≠ 0 then s.reply p { status := .inUse, body := [BitVec.ofNat 8 x.uses] }
          else (s.setSeq n { x with state := .opened }).reply p { status := .done, body := [] })))

/-- R41, R56: when the sequence table takes the end of a port's session, each sequence of that port becomes EMPTY, or an orphan
when it is SEALED with a use; the others do not change. The steps of those that become EMPTY return to the pool and their pins
are released. -/
def Obligations.SessionEndAtTheSequenceTable : Prop :=
  ∀ (s : State) (p : PortId) (x : Announcement) (before after : List Announcement),
    s.announcements = before ++ x :: after → x.block = .table → x.port = p →
    (∀ y ∈ before, ¬ (y.block = .table ∧ y.port = p)) →
    let goes (n : SeqId) : Bool :=
      decide ((s.seq n).owner = some p ∧ ¬ ((s.seq n).state = .sealed ∧ 0 < (s.seq n).uses))
    let steps := ((List.finRange 32).filter goes).flatMap fun n => (s.seq n).steps
    ∃ t : State,
      exec (.sessionEndSequences p) s = .next t
      ∧ { t with slots := s.slots, seqs := s.seqs } =
          { s with announcements := before ++ after, poolFree := s.poolFree + steps.length }
      ∧ (∀ n, t.seq n =
          (if (s.seq n).owner = some p then
            if (s.seq n).state = .sealed ∧ 0 < (s.seq n).uses then { s.seq n with owner := none, orphan := true }
            else Sequence.empty
          else s.seq n))
      ∧ t.slots = (pinRelease (steps.map Step.slot) s).slots

/-! ## Submission queue -/

/-- R60, R62, R63, R64, R65: a SUBMIT or REQUEST_DIRECT that passes every check puts its entry behind the entries of its
level or a higher one, raises the use count of the sequence submitted, answers the position and the count, and has the
player asked to select. The checks refuse it in the order of the rules. That the use raise reaches the sequence table
whatever announcements wait there is the model's choice (notes/assumptions/37.md). -/
def Obligations.EntriesJoinTheQueue : Prop :=
  ∀ (s : State) (p : PortId),
    let joined (before after : List Entry) (e : Entry) (u : State) : State :=
      { ({ u with queue := before ++ e :: after } : State).reply p
          { status := .done, body := [BitVec.ofNat 8 before.length, BitVec.ofNat 8 (s.queue.length + 1)] } with
        selects := s.selects + 1 }
    let placed (before after : List Entry) (level : Nat) : Prop :=
      s.queue = before ++ after ∧ (∀ e ∈ before, level ≤ e.level) ∧ (∀ e ∈ after, e.level < level)
    (∀ (number level : Byte) (tag : Word16) (override : Nat), override < 65536 →
      Asked s p .submit (.atBlock .queue) ([number, level] ++ tagBytes tag ++ le2 override) →
      let refused (st : Status) : Prop := exec (.submit p) s = .next (s.reply p { status := st, body := [] })
      let levelled := 1 ≤ level.toNat ∧ level.toNat ≤ 7
      let permitted := level = 7 → (s.port p).cls = .control
      let live := (∃ e ∈ s.queue, e.port = p ∧ ∃ m o, e.ask = .play tag m o)
        ∨ (∃ k c, s.player.out = .running k c ∧ c.port = some p ∧ c.tag = tag)
        ∨ (∃ c ∈ s.player.stack, c.port = some p ∧ c.tag = tag)
      (32 ≤ number.toNat → refused .badArgument)
      ∧ (∀ n : SeqId, number.toNat = n.val →
        (¬ levelled → refused .badArgument)
        ∧ (levelled → ¬ permitted → refused .notPermitted)
        ∧ (levelled → permitted → tag = 0xFFFF → refused .badArgument)
        ∧ (levelled → permitted → tag ≠ 0xFFFF → live → refused .tagInUse)
        ∧ (levelled → permitted → tag ≠ 0xFFFF → ¬ live → 16 ≤ s.queue.length → refused .retry)
        ∧ (levelled → permitted → tag ≠ 0xFFFF → ¬ live → s.queue.length < 16 →
          ((s.seq n).state ≠ .sealed → refused .wrongState)
          ∧ ((s.seq n).state = .sealed → ∀ before after, placed before after level.toNat →
            exec (.submit p) s = .next
              (joined before after { level := level.toNat, port := p, ask := .play tag n override }
                (s.setSeq n { s.seq n with uses := (s.seq n).uses + 1 }))))))
    ∧ (∀ level : Byte, Asked s p .requestDirect (.atBlock .queue) [level] →
      let refused (st : Status) : Prop := exec (.requestDirect p) s = .next (s.reply p { status := st, body := [] })
      let levelled := 1 ≤ level.toNat ∧ level.toNat ≤ 6
      let has := (∃ e ∈ s.queue, e.port = p ∧ e.ask = .direct) ∨ (∃ d, s.player.out.directParty = some d ∧ d.1 = p)
      (¬ levelled → refused .badArgument)
      ∧ (levelled → has → refused .wrongState)
      ∧ (levelled → ¬ has → 16 ≤ s.queue.length → refused .retry)
      ∧ (levelled → ¬ has → s.queue.length < 16 → ∀ before after, placed before after level.toNat →
        exec (.requestDirect p) s = .next
          (joined before after { level := level.toNat, port := p, ask := .direct } s)))

/-- R67, R68, R69, R74: entries leave the queue. A CANCEL takes out the entry it names, releases its use, and tells its
submitter when another port asked; with no such entry, and for the fallback's tag from a CONTROL port, the request passes to
the player. The end of a port's session takes out all its entries with their use releases and no notice. -/
def Obligations.EntriesLeaveTheQueue : Prop :=
  ∀ (s : State) (p q : PortId) (tag : Word16),
    (Asked s p .cancel (.atBlock .queue) (portByte q ++ tagBytes tag) →
      ((s.port p).cls = .control ∨ q = p) → tag ≠ 0xFFFF →
      (∀ (before after : List Entry) (e : Entry) (n : SeqId) (o : Nat),
        s.queue = before ++ e :: after → e.port = q → e.ask = .play tag n o →
        (∀ x ∈ before, ∀ m o', x.ask = .play tag m o' → x.port ≠ q) →
        let u := useRelease n { s with queue := before ++ after }
        exec (.cancel p) s = .next
          ((if q = p then u else u.notify q (.entryRemoved .cancelled e)).reply p { status := .done, body := [] }))
      ∧ ((∀ x ∈ s.queue, ∀ m o, x.ask = .play tag m o → x.port ≠ q) →
        exec (.cancel p) s = .next (s.moveRequest p .passedCancel)))
    ∧ (Asked s p .cancel (.atBlock .queue) (portByte q ++ [0xFF, 0xFF]) → (s.port p).cls = .control →
      exec (.cancel p) s = .next (s.moveRequest p .passedFallback))
    ∧ (∀ (x : Announcement) (before after : List Announcement),
      s.announcements = before ++ x :: after → x.block = .queue → x.port = p →
      (∀ y ∈ before, ¬ (y.block = .queue ∧ y.port = p)) → ∃ t : State,
        exec (.sessionEndQueue p) s = .next t
        ∧ t = (s.queue.filter fun e => e.port = p).foldl releaseEntry
            { s with announcements := before ++ after, queue := s.queue.filter fun e => e.port ≠ p }
        ∧ t.queue = s.queue.filter (fun e => e.port ≠ p) ∧ t.ports = s.ports)

/-! ## Player: selection -/

/-- R66, R73, R81 to R84, R134: selection with nothing holding the output and the link available. An admissible head above
the top of the stack is taken: a PLAY entry starts a context under the next holding number, with the latches cleared,
CONTEXT_STARTED, and its first plane asked for; a DIRECT entry of a port with a session becomes an offer. Otherwise the top
of the stack resumes, in the same way at its step; with an empty stack nothing changes. A DIRECT head of a port without a
session spends its holding number and is gone, and selection goes on. -/
def Obligations.SelectionWithNothingHeld : Prop :=
  ∀ (s : State), 0 < s.selects → s.player.linkUp = true → s.player.out = .idle →
    let k := s.player.lastNumber + 1
    let cleared : Latch := { pending := false, overrun := false }
    let clearedOf (x : Trigger) : Trigger := { x with latchA := cleared, latchB := cleared, latchSoft := cleared }
    let loads (t : State) (holder : HolderRef) (idx : Nat) (x : Step) : Prop :=
      s.link.state = .idle → s.link.pendingBlank = false →
        t.fromLink = s.fromLink ∧ t.link.state = .transmitting ∧ t.link.sent = some (.load x.slot)
          ∧ t.link.identity = some
              { holder := holder, idx := idx, slot := x.slot, verify := x.verify, stage := .sending }
    (∀ (e : Entry) (rest : List Entry) (tag : Word16) (n : SeqId) (o : Nat),
      s.queue = e :: rest → e.ask = .play tag n o → (e.level = 7 ∨ s.player.holdLevel < e.level) →
      (∀ c, s.player.stack.head? = some c → c.level.getD 0 < e.level) → 0 < e.level →
      let count := if o = 0 then (s.seq n).repeatCount else o
      ∃ t : State,
        exec .selectRequest s = .next t
        ∧ { t with link := s.link, fromLink := s.fromLink } =
            ({ s with
              queue := rest, selects := s.selects - 1, trig := clearedOf s.trig
              player := { s.player with
                lastNumber := k
                out := .running k
                  { seq := n, port := some e.port, tag := tag, level := some e.level, idx := 0
                    remaining := if count = 65535 then .endless else .count (count - 1)
                    phase := some .staging, cut := false, late := 0 } } } : State).notify e.port
              (.contextStarted tag n e.level count)
        ∧ (∀ x, (s.seq n).steps[0]? = some x → loads t { who := .context e.port tag, number := k } 0 x))
    ∧ (∀ (e : Entry) (rest : List Entry),
      s.queue = e :: rest → e.ask = .direct → s.player.holdLevel < e.level → (s.port e.port).sessionOpen = true →
      (∀ c, s.player.stack.head? = some c → c.level.getD 0 < e.level) →
      exec .selectRequest s = .next
        (({ s with
            queue := rest, selects := s.selects - 1
            player := { s.player with
              lastNumber := k, out := .offering k { port := e.port, level := e.level, window := some 50000 } } } :
          State).notify e.port (.directOffered e.level)))
    ∧ (∀ (e : Entry) (rest : List Entry),
      s.queue = e :: rest → e.ask = .direct → s.player.holdLevel < e.level → (s.port e.port).sessionOpen = false →
      (∀ c, s.player.stack.head? = some c → c.level.getD 0 < e.level) →
      exec .selectRequest s = exec .selectRequest
        { s with queue := rest, player := { s.player with lastNumber := k } })
    ∧ (∀ (c : Context) (rest : List Context) (q : PortId),
      s.player.stack = c :: rest → c.port = some q →
      (∀ e, s.queue.head? = some e →
        (e.level = 7 ∨ s.player.holdLevel < e.level) → e.level ≤ c.level.getD 0) → ∃ t : State,
        exec .selectRequest s = .next t
        ∧ { t with link := s.link, fromLink := s.fromLink } =
            ({ s with
              selects := s.selects - 1, trig := clearedOf s.trig
              player := { s.player with
                lastNumber := k, stack := rest, out := .running k { c with phase := some .staging } } } : State).notify q
              (.contextResumed c.tag c.idx c.cut)
        ∧ (∀ x, (s.seq c.seq).steps[c.idx]? = some x → loads t { who := .context q c.tag, number := k } c.idx x))
    ∧ (s.player.stack = [] →
      (∀ e, s.queue.head? = some e → e.level ≠ 7 ∧ e.level ≤ s.player.holdLevel) →
      exec .selectRequest s = .next { s with selects := s.selects - 1 })

/-- R81, R85, R86: a current context gives way to an admissible head of a higher level, one below 7 only in STAGING or
WAITING, one of 7 in any phase: its timers, wait and lights end, it is pushed with its step index, with its cut flag set if
it was cut in HOLD or GAP, its submitter is told, and the head starts, or is offered direct mode when it is a DIRECT entry of a
port with a session. Otherwise, and in HALTED, in FALLBACK or without the
link, selection takes nothing. -/
def Obligations.PreemptionPushesTheContext : Prop :=
  ∀ (s : State), 0 < s.selects →
    let idle : State := { s with selects := s.selects - 1 }
    let cleared : Latch := { pending := false, overrun := false }
    (∀ (k : Nat) (c : Context) (own : Nat) (q : PortId) (e : Entry) (rest : List Entry) (tag : Word16) (n : SeqId)
        (o : Nat),
      s.player.linkUp = true → s.player.out = .running k c → c.level = some own → c.port = some q →
      s.queue = e :: rest → e.ask = .play tag n o → (e.level = 7 ∨ s.player.holdLevel < e.level) →
      let shown := c.phase = some .hold ∨ c.phase = some .gap
      let count := if o = 0 then (s.seq n).repeatCount else o
      (own < e.level → (e.level = 7 ∨ ¬ shown) → ∃ t : State,
        exec .selectRequest s = .next t
        ∧ (∀ ch, (t.light ch).on = false ∧ (t.light ch).limit = (s.light ch).limit
            ∧ (t.light ch).trip = (s.light ch).trip)
        ∧ { t with link := s.link, fromLink := s.fromLink, lights := s.lights } =
            (({ s with
              selects := s.selects - 1, queue := rest
              trig := { s.trig with wait := none, latchA := cleared, latchB := cleared, latchSoft := cleared }
              player := { s.player with
                holdTimer := none, gapTimer := none, lastNumber := s.player.lastNumber + 1
                stack := { c with phase := none, cut := c.cut || decide (e.level = 7 ∧ shown) } :: s.player.stack
                out := .running (s.player.lastNumber + 1)
                  { seq := n, port := some e.port, tag := tag, level := some e.level, idx := 0
                    remaining := if count = 65535 then .endless else .count (count - 1)
                    phase := some .staging, cut := false, late := 0 } } } : State).notify q
              (.contextPreempted c.tag c.idx e.level (c.cut || decide (e.level = 7 ∧ shown)))).notify e.port
              (.contextStarted tag n e.level count))
      ∧ ((e.level ≤ own ∨ (e.level ≠ 7 ∧ shown)) → exec .selectRequest s = .next idle))
    ∧ (∀ (k : Nat) (c : Context) (own : Nat) (q : PortId) (e : Entry) (rest : List Entry),
      s.player.linkUp = true → s.player.out = .running k c → c.level = some own → c.port = some q →
      s.queue = e :: rest → e.ask = .direct → s.player.holdLevel < e.level → (s.port e.port).sessionOpen = true →
      let shown := c.phase = some .hold ∨ c.phase = some .gap
      let cut := c.cut || decide (e.level = 7 ∧ shown)
      (own < e.level → (e.level = 7 ∨ ¬ shown) → ∃ t : State,
        exec .selectRequest s = .next t
        ∧ (∀ ch, (t.light ch).on = false ∧ (t.light ch).limit = (s.light ch).limit
            ∧ (t.light ch).trip = (s.light ch).trip)
        ∧ { t with link := s.link, lights := s.lights } =
            (({ s with
              selects := s.selects - 1, queue := rest, trig := { s.trig with wait := none }
              player := { s.player with
                holdTimer := none, gapTimer := none, lastNumber := s.player.lastNumber + 1
                stack := { c with phase := none, cut := cut } :: s.player.stack
                out := .offering (s.player.lastNumber + 1)
                  { port := e.port, level := e.level, window := some 50000 } } } : State).notify q
              (.contextPreempted c.tag c.idx e.level cut)).notify e.port (.directOffered e.level))
      ∧ ((e.level ≤ own ∨ (e.level ≠ 7 ∧ shown)) → exec .selectRequest s = .next idle))
    ∧ ((s.player.linkUp = false ∨ s.player.out = .halted ∨ (∃ k c, s.player.out = .fallback k c)) →
      exec .selectRequest s = .next idle)

/-! ## Player: requests -/

/-- R100: CLEAR_HALT, with its refusals. -/
def Obligations.ClearHaltEndsTheHalt : Prop :=
  ∀ (s : State) (p : PortId) (body : List Byte), Asked s p .clearHalt (.atBlock .player) body →
    let refused (st : Status) : Prop := exec (.clearHalt p) s = .next (s.reply p { status := st, body := [] })
    (body ≠ [] → refused .badLength)
    ∧ (body = [] → (s.port p).cls = .ordinary → refused .notPermitted)
    ∧ (body = [] → (s.port p).cls = .control → s.player.out ≠ .halted → refused .wrongState)
    ∧ (body = [] → (s.port p).cls = .control → s.player.out = .halted →
      let cleared := ({ s with player := { s.player with out := .idle, haltRecord := none } } : State).reply p
        { status := .done, body := [] }
      exec (.clearHalt p) s = .next (select cleared)
      ∧ (select cleared).player.faultRecord = s.player.faultRecord
      ∧ (∀ k c, (select cleared).player.out ≠ .fallback k c)
      ∧ (s.player.linkUp = false → select cleared = cleared ∧ cleared.player.waitingForLink = true))

/-- R71, R72, R97: the hold level and the fallback designation are set by SET_HOLD_LEVEL and SET_FALLBACK of a CONTROL port,
as stated, and by no other command but a chip reset. That the use raise and release of SET_FALLBACK reach the sequence table
whatever announcements wait there is the model's choice (notes/assumptions/37.md). -/
def Obligations.HoldLevelAndDesignationAreSet : Prop :=
  (∀ (s : State) (p : PortId) (h : Byte), Asked s p .setHoldLevel (.atBlock .player) [h] →
    exec (.setHoldLevel p) s = .next
      (if (s.port p).cls = .ordinary then s.reply p { status := .notPermitted, body := [] }
      else if 6 < h.toNat then s.reply p { status := .badArgument, body := [] }
      else select (({ s with player := { s.player with holdLevel := h.toNat } } : State).reply p
        { status := .done, body := [BitVec.ofNat 8 s.player.holdLevel] })))
  ∧ (∀ (s : State) (p : PortId) (n : SeqId), Asked s p .setFallback (.atBlock .player) [BitVec.ofNat 8 n.val] →
    (s.port p).cls = .control →
    let previous (u : State) : State :=
      u.reply p { status := .done, body := match s.player.designated with | some m => seqByte m | none => [0xFF] }
    let designate (u : State) : State := { u with player := { u.player with designated := some n } }
    (s.player.designated = some n → exec (.setFallback p) s = .next (previous s))
    ∧ (s.player.designated ≠ some n → (s.seq n).state ≠ .sealed →
      exec (.setFallback p) s = .next (s.reply p { status := .wrongState, body := [] }))
    ∧ (s.player.designated ≠ some n → (s.seq n).state = .sealed →
      let raised := s.setSeq n { s.seq n with uses := (s.seq n).uses + 1 }
      exec (.setFallback p) s = .next (previous (designate
        (match s.player.designated with | some m => useRelease m raised | none => raised)))))
  ∧ (∀ (s : State) (p : PortId), Asked s p .setFallback (.atBlock .player) [0xFF] → (s.port p).cls = .control →
    let released := match s.player.designated with | some m => useRelease m s | none => s
    exec (.setFallback p) s = .next
      (({ released with player := { released.player with designated := none } } : State).reply p
        { status := .done, body := match s.player.designated with | some m => seqByte m | none => [0xFF] }))
  ∧ (∀ (i : Instr) (s t : State), exec i s = .next t → (∀ straps, i ≠ .chipReset straps) →
    ((∀ p, i ≠ .setHoldLevel p) → t.player.holdLevel = s.player.holdLevel)
    ∧ ((∀ p, i ≠ .setFallback p) → t.player.designated = s.player.designated))

/-- R75, R101, R121, R127, R129: RESET_PLAYER of a CONTROL port leaves nothing holding the output, an empty stack and queue,
every channel off with its trip flag clear, the latches clear and the records empty; the hold level and the designation are
kept. Each port is handed its notices in the order of R101, and the requester then its reply, with the numbers of contexts and
entries removed; every context and PLAY entry removed releases its use, after the shows of direct mode have released their
pins. The fallback context counts as a context in the reply (notes/assumptions/30.md). -/
def Obligations.ResetPlayerEmptiesTheOutputSide : Prop :=
  ∀ (s : State) (p : PortId), Asked s p .resetPlayer (.atBlock .player) [] → (s.port p).cls = .control →
    let aborted (q : PortId) (c : Context) : List Notice :=
      if c.port = some q then [.contextAborted c.tag (.ended .playerReset) c.idx c.late] else []
    let holder (q : PortId) : List Notice :=
      match s.player.out with
      | .running _ c => aborted q c
      | .fallback _ _ => if (s.port q).cls = .control then [.fallbackEnded .playerReset] else []
      | .offering _ o => if o.port = q then [.directEnded .playerReset o.level 0 none] else []
      | .direct _ d => if d.port = q then [.directEnded .playerReset d.level d.shows.length none] else []
      | _ => []
    let notices (q : PortId) : List Notice :=
      holder q ++ s.player.stack.flatMap (aborted q)
        ++ s.queue.flatMap (fun e => if e.port = q then [.entryRemoved .playerReset e] else [])
        ++ (if s.link.state = .failed ∧ (s.port q).cls = .control then [.linkChanged .awaitBlanked .failed true] else [])
    let answer : Handed := .reply .done
      [BitVec.ofNat 8 (s.player.out.contexts.length + s.player.stack.length), BitVec.ofNat 8 s.queue.length]
    let uses := (s.player.out.contexts ++ s.player.stack).map Context.seq
      ++ s.queue.flatMap (fun e => match e.ask with | .play _ n _ => [n] | .direct => [])
    let released := uses.foldl (fun u n => useRelease n u) (endDirect s)
    ∃ t : State,
      exec (.resetPlayer p) s = .next t
      ∧ t.player.out = .idle ∧ t.player.stack = [] ∧ t.queue = []
      ∧ t.player.holdTimer = none ∧ t.player.gapTimer = none
      ∧ t.player.faultRecord = none ∧ t.player.haltRecord = none
      ∧ t.player.holdLevel = s.player.holdLevel ∧ t.player.designated = s.player.designated
      ∧ t.player.linkUp = s.player.linkUp
      ∧ (∀ ch, (t.light ch).on = false ∧ (t.light ch).trip = false ∧ (t.light ch).limit = (s.light ch).limit)
      ∧ (∀ x, t.trig.latch x = { pending := false, overrun := false })
      ∧ t.trig.cfgA = s.trig.cfgA ∧ t.trig.cfgB = s.trig.cfgB ∧ t.trig.timeout = s.trig.timeout
      ∧ (s.link.state = .failed → t.link.state = .awaitBlanked)
      ∧ (s.link.state = .idle → t.link.state = .awaitBlanked ∧ t.link.timer = some 2000)
      ∧ t.lib = s.lib ∧ t.planeMem = s.planeMem ∧ t.announcements = s.announcements ∧ t.selects = s.selects
      ∧ t.pending = s.pending ∧ t.resetLow = s.resetLow
      ∧ (∀ q, (t.port q).inbox =
          (s.port q).inbox ++ (notices q).map Handed.notice ++ (if q = p then [answer] else []))
      ∧ t.seqs = released.seqs ∧ t.slots = released.slots ∧ t.poolFree = released.poolFree

/-- R94, R98: a CANCEL passed to the player ends the current context named, with selection after the reply, or takes a
suspended one out of the stack; with neither it is refused. The fallback context is cancelled in the same way. That the reply
comes before the selection is notes/assumptions/15.md; that no selection follows for a suspended context while something
holds the output is notes/assumptions/29.md. -/
def Obligations.CancelAtThePlayer : Prop :=
  ∀ (s : State) (p : PortId),
    let done : Answer := { status := .done, body := [] }
    (∀ (q : PortId) (tag : Word16), Asked s p .cancel .passedCancel (portByte q ++ tagBytes tag) →
      (∀ k c, s.player.out = .running k c → c.port = some q → c.tag = tag →
        exec (.cancelContext p) s = .next (select
          (((useRelease c.seq ((silence k s).notify q
            (.contextAborted tag (.ended .cancelled) c.idx c.late))).setOut .idle).reply p done)))
      ∧ ((∀ k c, s.player.out = .running k c → ¬ (c.port = some q ∧ c.tag = tag)) →
        (s.player.out ≠ .idle ∨ s.player.linkUp = false) →
        (∀ (before after : List Context) (c : Context), s.player.stack = before ++ c :: after →
          c.port = some q → c.tag = tag → (∀ d ∈ before, ¬ (d.port = some q ∧ d.tag = tag)) →
          exec (.cancelContext p) s = .next
            ((useRelease c.seq
              (({ s with player := { s.player with stack := before ++ after } } : State).notify q
                (.contextAborted tag (.ended .cancelled) c.idx c.late))).reply p done))
        ∧ ((∀ d ∈ s.player.stack, ¬ (d.port = some q ∧ d.tag = tag)) →
          exec (.cancelContext p) s = .next (s.reply p { status := .badArgument, body := [] }))))
    ∧ (∀ body, Asked s p .cancel .passedFallback body →
      (∀ k c, s.player.out = .fallback k c →
        exec (.cancelFallback p) s = .next (select
          (((useRelease c.seq ((silence k s).notifyControl (.fallbackEnded .cancelled))).setOut .idle).reply p done)))
      ∧ ((∀ k c, s.player.out ≠ .fallback k c) →
        exec (.cancelFallback p) s = .next (s.reply p { status := .wrongState, body := [] })))

/-! ## Player: steps -/

/-- R88, R89, R90, R95, R111, R125: the player takes a LOADED answer for the step its running context is staging: a TIMED
step goes to the swap; a step whose latch is set consumes it and goes to the swap; another one waits, with the timeout
configured. A consumption ends the wait with the swap. Either, for an earlier holding, is discarded. That a set latch is
consumed, and the swap begun, before selection is applied is the model's choice (notes/assumptions/12.md). -/
def Obligations.StagedStepsWaitOrSwap : Prop :=
  ∀ (s : State) (k : Nat) (c : Context), s.player.out.context? = some (k, c) →
    (∀ (x : Step) (i : Identity),
      (s.seq c.seq).steps[c.idx]? = some x →
      s.link.state = .idle → s.link.identity = some i → i.holder.number = k → i.idx = c.idx → i.stage = .loaded →
      let swapping : Link :=
        { s.link with
          state := .awaitSwapped, identity := some { i with stage := .swapping }, timer := some 2000
          msgSlot := some i.slot, sent := some .swap }
      let held (u : State) : State :=
        { u with
          player := { u.player with out := s.player.out.withContext { c with phase := some .hold } }, link := swapping }
      (∀ rest, s.fromLink = .loaded k c.idx :: rest → c.phase = some .staging →
        let s' : State := { s with fromLink := rest }
        (x.advance = .timed → exec .loadedTaken s = .next (held s'))
        ∧ (∀ src, x.advance.source = some src → (s.trig.latch src).pending = true →
          exec .loadedTaken s = .next (select (held (consumeLatch src s'))))
        ∧ (∀ src, x.advance.source = some src → (s.trig.latch src).pending = false → s.queue = [] →
          let wait : Wait :=
            { source := src, holder := { who := c.holder, number := k }, timeout := s.trig.timeout
              timer := if s.trig.timeout = 0 then none else some (s.trig.timeout * 1000) }
          exec .loadedTaken s = .next
            { s' with
              player := { s.player with out := s.player.out.withContext { c with phase := some .waiting } }
              trig := { s.trig with wait := some wait } }))
      ∧ (∀ rest, s.fromTrig = .consumption k :: rest → c.phase = some .waiting →
        exec .consumptionTaken s = .next (held { s with fromTrig := rest })))
    ∧ (∀ m j rest, s.fromLink = .loaded m j :: rest → m ≠ k → exec .loadedTaken s = .next { s with fromLink := rest })
    ∧ (∀ m rest, s.fromTrig = .consumption m :: rest → m ≠ k →
      exec .consumptionTaken s = .next { s with fromTrig := rest })

/-- R90, R115, R129: the player takes the SWAPPED answer of its running context's step: the sync pulse, exactly the channels
of the step's mask, the hold timer, the cut flag cleared, and the load of the step ahead, if there is one. -/
def Obligations.SwappedStepIsShown : Prop :=
  ∀ (s : State) (k : Nat) (c : Context) (x : Step) (rest : List LinkEvent),
    s.player.out.context? = some (k, c) → (s.seq c.seq).steps[c.idx]? = some x → c.phase = some .hold →
    s.player.holdTimer = none → s.fromLink = .swapped k c.idx :: rest → ∃ t : State,
      exec .swappedTaken s = .next t
      ∧ { t with link := s.link, fromLink := rest, lights := s.lights } =
          { s with
            fromLink := rest, trig := { s.trig with sync := some 2 }
            player := { s.player with
              out := s.player.out.withContext { c with cut := false }, holdTimer := some (x.hold * 10) } }
      ∧ (∀ ch, (t.light ch).on = x.mask.getLsbD ch.val ∧ (t.light ch).limit = (s.light ch).limit
          ∧ (t.light ch).trip = (s.light ch).trip)
      ∧ (∀ j y, c.ahead (s.seq c.seq).steps.length = some j → (s.seq c.seq).steps[j]? = some y →
          s.link.state = .idle → s.link.pendingBlank = false →
          t.fromLink = rest ∧ t.link.state = .transmitting ∧ t.link.sent = some (.load y.slot)
          ∧ t.link.identity = some
              { holder := { who := c.holder, number := k }, idx := j, slot := y.slot, verify := y.verify
                stage := .sending })
      ∧ (c.ahead (s.seq c.seq).steps.length = none → t.link = s.link ∧ t.fromLink = rest)

/-- R91, R92, R93, R98, R114: the end of a hold darkens the step and starts its gap. When the gap is 0 and the step ahead is
TIMED and LOADED, the channels the two steps share stay on and its swap begins at once. The end of a gap completes a context
with no next position, and otherwise moves it there: with its look-ahead LOADED, a TIMED step goes to the swap and another one
waits; otherwise it waits for its plane, late. A higher head takes the output there, and the context is pushed at its new
position (R85). That the timer's rest passes is notes/assumptions/4.md; that lateness goes by the link's identity is
notes/assumptions/18.md; that the new position stands before selection is notes/assumptions/13.md. -/
def Obligations.HoldsAndGapsEnd : Prop :=
  ∀ (s : State) (k d : Nat) (c : Context), s.player.out.context? = some (k, c) →
    let now := s.elapse d
    let stopped : State := { now with player := { now.player with holdTimer := none, gapTimer := none } }
    let ended (u : State) : State := select ((useRelease c.seq u).setOut .idle)
    let swapping (i : Identity) : Link :=
      { s.link with
        state := .awaitSwapped, identity := some { i with stage := .swapping }, timer := some 2000
        msgSlot := some i.slot, sent := some .swap }
    (∀ x, (s.seq c.seq).steps[c.idx]? = some x → s.player.holdTimer = some d → c.phase = some .hold → x.gap ≠ 0 →
      let gapped : Player :=
        { s.player with
          holdTimer := none, gapTimer := some (x.gap * 10)
          out := s.player.out.withContext { c with phase := some .gap } }
      ∃ t : State,
        exec .holdTimerExpiry s = .next t
        ∧ (∀ ch, (t.light ch).on = false)
        ∧ { t with lights := s.lights } = { now with lights := s.lights, player := gapped })
    ∧ (∀ x y j r i,
      (s.seq c.seq).steps[c.idx]? = some x → s.player.holdTimer = some d → c.phase = some .hold → x.gap = 0 →
      c.next (s.seq c.seq).steps.length = some (j, r) → (s.seq c.seq).steps[j]? = some y → y.advance = .timed →
      s.queue = [] → s.link.state = .idle → s.link.identity = some i → i.holder.number = k → i.idx = j →
      i.stage = .loaded →
      let further : Player :=
        { s.player with
          holdTimer := none, gapTimer := none
          out := s.player.out.withContext { c with idx := j, remaining := r, phase := some .hold } }
      ∃ t : State,
        exec .holdTimerExpiry s = .next t
        ∧ (∀ ch, (t.light ch).on = (x.mask &&& y.mask).getLsbD ch.val)
        ∧ { t with lights := s.lights } = { now with lights := s.lights, player := further, link := swapping i })
    ∧ (s.player.gapTimer = some d → c.phase = some .gap →
      (c.next (s.seq c.seq).steps.length = none →
        (∀ q, s.player.out = .running k c → c.port = some q →
          exec .gapTimerExpiry s = .next (ended (stopped.notify q (.contextCompleted c.tag c.late))))
        ∧ (s.player.out = .fallback k c →
          exec .gapTimerExpiry s = .next (ended (stopped.notifyControl (.fallbackEnded .completed)))))
      ∧ (∀ j r i, c.next (s.seq c.seq).steps.length = some (j, r) → s.queue = [] →
        s.link.identity = some i → i.holder.number = k → i.idx = j →
        let moved (phase : Phase) (late : Nat) : Output :=
          s.player.out.withContext { c with idx := j, remaining := r, phase := some phase, late := late }
        (i.stage ≠ .loaded →
          exec .gapTimerExpiry s = .next (stopped.setOut (moved .staging (min 65535 (c.late + 1)))))
        ∧ (∀ y, i.stage = .loaded → s.link.state = .idle → (s.seq c.seq).steps[j]? = some y →
          (y.advance = .timed →
            exec .gapTimerExpiry s = .next { stopped.setOut (moved .hold c.late) with link := swapping i })
          ∧ (∀ src, y.advance.source = some src → (s.trig.latch src).pending = true →
            exec .gapTimerExpiry s = .next
              (consumeLatch src { stopped.setOut (moved .hold c.late) with link := swapping i }))
          ∧ (∀ src, y.advance.source = some src → (s.trig.latch src).pending = false →
            exec .gapTimerExpiry s = .next
              (makeWait src { who := c.holder, number := k } (stopped.setOut (moved .waiting c.late))))))
      ∧ (∀ j r e rest own, c.next (s.seq c.seq).steps.length = some (j, r) →
        s.player.out = .running k c → k ≤ s.player.lastNumber → s.player.linkUp = true → c.level = some own →
        s.queue = e :: rest → own < e.level → (e.level = 7 ∨ s.player.holdLevel < e.level) →
        exec .gapTimerExpiry s = exec .selectRequest
          { stopped.setOut (.running k { c with idx := j, remaining := r, phase := some .staging }) with
            selects := s.selects + 1 }))

/-- R77, R95, R96, R98, R99, R119, R120, R121: the player takes a fault. One of an earlier holding is discarded. One against a
current context aborts it, turns every channel off, writes the record, tells the CONTROL ports and then the submitter, with the
step concerned, and goes on with the fallback or with selection; one against an offer or a direct holder ends it in the same
way; one against the fallback context halts the player, with a BLANK asked and PLAYER_HALTED to the CONTROL ports. The fallback
context starts with a use raise, FALLBACK_STARTED and the load of its first step. A report of unavailability is taken before
its fault, in one action (notes/assumptions/20.md); a report of availability leads to selection. -/
def Obligations.FaultsAndReportsAreTaken : Prop :=
  ∀ (s : State) (f : RaisedFault) (rest : List LinkEvent),
    let next (u : State) : State :=
      match s.player.designated with
      | some n => if f.kind = .linkDown ∨ f.kind = .linkTimeout then select u else startFallback n f.kind u
      | none => select u
    let item (x : Option (Nat × SlotId)) : Option (Nat × SlotId) := match f.item with | some y => some y | none => x
    let stepItem (c : Context) : Option (Nat × SlotId) :=
      item ((s.seq c.seq).steps[c.idx]?.map fun x => (c.idx, x.slot))
    let directRecord (p : PortId) (level : Nat) (x : Option (Nat × SlotId)) : FaultRecord :=
      { kind := f.kind, holder := .direct, seq := none, idx := x.map Prod.fst, slot := x.map Prod.snd
        port := some p, level := some level, reason := f.reason }
    let recorded (u : State) (r : FaultRecord) : State :=
      ({ u with player := { u.player with faultRecord := some r } } : State).notifyControl (.playerFault r)
    (s.fromLink = .fault f :: rest → s.player.out.number? ≠ some f.number →
      exec (.faultTaken .link) s = .next { s with fromLink := rest })
    ∧ (∀ rest', s.fromTrig = .fault f :: rest' → s.player.out.number? ≠ some f.number →
      exec (.faultTaken .trigger) s = .next { s with fromTrig := rest' })
    ∧ (∀ rest', s.fromLights = f :: rest' → s.player.out.number? ≠ some f.number →
      exec (.faultTaken .lights) s = .next { s with fromLights := rest' })
    ∧ (∀ rest', s.fromTrig = .fault f :: rest' →
      exec (.faultTaken .trigger) s = exec (.faultTaken .link) { s with fromTrig := rest', fromLink := .fault f :: s.fromLink })
    ∧ (∀ rest', s.fromLights = f :: rest' →
      exec (.faultTaken .lights) s = exec (.faultTaken .link) { s with fromLights := rest', fromLink := .fault f :: s.fromLink })
    ∧ (∀ (c : Context) (q : PortId),
      s.fromLink = .fault f :: rest → s.player.out = .running f.number c → c.port = some q →
      let record : FaultRecord :=
        { kind := f.kind, holder := .context, seq := some c.seq
          idx := (stepItem c).map Prod.fst, slot := (stepItem c).map Prod.snd
          port := some q, level := c.level, reason := f.reason }
      let told := (recorded (silence f.number { s with fromLink := rest }) record).notify q
        (.contextAborted c.tag (.faulted f.kind) (((stepItem c).map Prod.fst).getD c.idx) c.late)
      let ended := (useRelease c.seq told).setOut .idle
      exec (.faultTaken .link) s = .next (next ended) ∧ (∀ ch, (ended.light ch).on = false))
    ∧ (∀ (d : Direct), s.fromLink = .fault f :: rest → s.player.out = .direct f.number d →
      exec (.faultTaken .link) s = .next (next
        ((recorded (lightsOff (endDirect { s with fromLink := rest }))
          (directRecord d.port d.level (item (d.shows.head?.map fun x => (x.number.toNat, x.slot))))).notify d.port
          (.directEnded .fault d.level d.shows.length none))))
    ∧ (∀ (o : Offer), s.fromLink = .fault f :: rest → s.player.out = .offering f.number o →
      exec (.faultTaken .link) s = .next (next
        ((recorded (lightsOff ((discard f.number { s with fromLink := rest }).setOut .idle))
          (directRecord o.port o.level f.item)).notify o.port (.directEnded .fault o.level 0 none))))
    ∧ (∀ (c : Context), s.fromLink = .fault f :: rest → s.player.out = .fallback f.number c →
      let record : FaultRecord :=
        { kind := f.kind, holder := .fallback, seq := some c.seq
          idx := (stepItem c).map Prod.fst, slot := (stepItem c).map Prod.snd
          port := none, level := none, reason := f.reason }
      let released := useRelease c.seq s
      ∃ t : State,
        exec (.faultTaken .link) s = .next t
        ∧ (∀ ch, (t.light ch).on = false ∧ (t.light ch).limit = (s.light ch).limit ∧ (t.light ch).trip = (s.light ch).trip)
        ∧ { t with link := s.link, lights := s.lights } =
            ({ s with
              slots := released.slots, seqs := released.seqs, poolFree := released.poolFree
              fromLink := rest, trig := { s.trig with wait := none }
              player := { s.player with
                out := .halted, holdTimer := none, gapTimer := none
                haltRecord := s.player.faultRecord, faultRecord := some record } } : State).notifyControl
              (.playerHalted s.player.faultRecord record)
        ∧ (s.link.state = .idle →
            t.link.state = .awaitBlanked ∧ t.link.sent = some .blank ∧ t.link.timer = some 2000)
        ∧ (s.link.state ≠ .idle → t.link.state = s.link.state ∧ t.link.pendingBlank = true))
    ∧ (∀ (n : SeqId) (kind : FaultKind), (s.seq n).state = .sealed →
      let k := s.player.lastNumber + 1
      let cleared : Latch := { pending := false, overrun := false }
      let count := (s.seq n).repeatCount
      let t := startFallback n kind s
      { t with link := s.link, fromLink := s.fromLink } =
          ({ s.setSeq n { s.seq n with uses := (s.seq n).uses + 1 } with
            trig := { s.trig with latchA := cleared, latchB := cleared, latchSoft := cleared }
            player := { s.player with
              lastNumber := k
              out := .fallback k
                { seq := n, port := none, tag := 0xFFFF, level := none, idx := 0
                  remaining := if count = 65535 then .endless else .count (count - 1)
                  phase := some .staging, cut := false, late := 0 } } } : State).notifyControl (.fallbackStarted n kind)
      ∧ (∀ x, (s.seq n).steps[0]? = some x → s.link.state = .idle → s.link.pendingBlank = false →
          t.fromLink = s.fromLink ∧ t.link.state = .transmitting ∧ t.link.sent = some (.load x.slot)
            ∧ t.link.identity = some
                { holder := { who := .fallback, number := k }, idx := 0, slot := x.slot, verify := x.verify
                  stage := .sending }))
    ∧ (s.fromLink = .report true .none :: rest →
      exec .linkReportTaken s = .next
        (select { s with fromLink := rest, player := { s.player with linkUp := true } }))
    ∧ (s.fromLink = .report false .none :: rest →
      exec .linkReportTaken s = .next { s with fromLink := rest, player := { s.player with linkUp := false } })
    ∧ (s.fromLink = .report false (.named f) :: rest →
      exec .linkReportTaken s = exec (.faultTaken .link)
        { s with fromLink := .fault f :: rest, player := { s.player with linkUp := false } })
    ∧ (s.fromLink = .report false .presentHolder :: rest →
      ((s.player.out = .idle ∨ s.player.out = .halted) →
        exec .linkReportTaken s = .next { s with fromLink := rest, player := { s.player with linkUp := false } })
      ∧ (∀ n, s.player.out.number? = some n →
        exec .linkReportTaken s = exec (.faultTaken .link)
          { s with
            fromLink := .fault { kind := .linkDown, number := n, item := none, reason := none } :: rest
            player := { s.player with linkUp := false } }))
    ∧ (∀ rf, s.fromLink = .report false rf :: rest → rf ≠ .none →
      exec (.faultTaken .link) s = exec .linkReportTaken s)

/-! ## Direct mode -/

/-- R87, R134 to R137, R140 to R143: ACCEPT_DIRECT, RELEASE_DIRECT, the expiry of the offer window and the end of the port's
session, for the port of an offer or of a holding; and selection, by which a higher head withdraws an offer at once and
preempts a holding at level 7 or at a preemptible point (notes/assumptions/14.md). That the rest of the window passes is
notes/assumptions/4.md, that RELEASE_DIRECT replies before selection notes/assumptions/15.md, and that a withdrawal is
followed by no selection notes/assumptions/29.md. That the withdrawal of RELEASE_DIRECT reaches the queue whatever
announcements wait there is the model's choice (notes/assumptions/37.md). -/
def Obligations.OffersAndHoldingsBeginAndEnd : Prop :=
  ∀ (s : State) (p : PortId) (k level d : Nat) (shows : List Show) (timer : Option Nat),
    let done (body : List Byte) : Answer := { status := .done, body := body }
    let offered := s.player.out = .offering k { port := p, level := level, window := some d }
    let holding := s.player.out = .direct k { port := p, level := level, shows := shows, timer := timer }
    (offered → Asked s p .acceptDirect (.atBlock .player) [] →
      exec (.acceptDirect p) s = .next (select
        (((clearLatches s).setOut (.direct k { port := p, level := level, shows := [], timer := none })).reply p
          (done [BitVec.ofNat 8 level]))))
    ∧ (Asked s p .acceptDirect (.atBlock .player) [] →
      (∀ m o, s.player.out = .offering m o → o.port ≠ p) →
      exec (.acceptDirect p) s = .next (s.reply p { status := .wrongState, body := [] }))
    ∧ (Asked s p .releaseDirect (.atBlock .player) [] →
      (∀ (before after : List Entry) (e : Entry), s.queue = before ++ e :: after → e.port = p → e.ask = .direct →
        (∀ x ∈ before ++ after, ¬ (x.port = p ∧ x.ask = .direct)) →
        exec (.releaseDirect p) s = .next (({ s with queue := before ++ after } : State).reply p (done [0, 0])))
      ∧ ((∀ x ∈ s.queue, ¬ (x.port = p ∧ x.ask = .direct)) →
        (offered → exec (.releaseDirect p) s = .next (select (((discard k s).setOut .idle).reply p (done [1, 0]))))
        ∧ (holding → exec (.releaseDirect p) s = .next
            (select ((endDirect s).reply p (done [2, BitVec.ofNat 8 shows.length]))))))
    ∧ (offered →
      exec .offerWindowExpiry s = .next (select
        (((discard k (s.elapse d)).setOut .idle).notify p (.directEnded .lapsed level 0 none))))
    ∧ (∀ (x : Announcement) (before after : List Announcement),
      s.announcements = before ++ x :: after → x.block = .player → x.port = p →
      (∀ y ∈ before, ¬ (y.block = .player ∧ y.port = p)) →
      let taken : State := { s with announcements := before ++ after }
      (offered → exec (.sessionEndPlayer p) s = .next (select ((discard k taken).setOut .idle)))
      ∧ (holding → exec (.sessionEndPlayer p) s = .next (select (endDirect taken)))
      ∧ (s.player.out.directParty.map Prod.fst ≠ some p → exec (.sessionEndPlayer p) s = .next taken))
    ∧ (∀ (e : Entry) (rest : List Entry),
      0 < s.selects → s.player.linkUp = true → s.queue = e :: rest → (e.level = 7 ∨ s.player.holdLevel < e.level) →
      let shown := ∃ x, shows.head? = some x ∧ (x.stage = .swapping ∨ x.stage = .hold)
      let idle : State := { s with selects := s.selects - 1 }
      (offered →
        (level < e.level → exec .selectRequest s = exec .selectRequest
          (((discard k s).setOut .idle).notify p (.directEnded .preempted level 0 (some e.level))))
        ∧ (e.level ≤ level → exec .selectRequest s = .next idle))
      ∧ (holding →
        (level < e.level → (e.level = 7 ∨ ¬ shown) → exec .selectRequest s = exec .selectRequest
          ((endDirect s).notify p (.directEnded .preempted level shows.length (some e.level))))
        ∧ (e.level ≤ level ∨ (e.level ≠ 7 ∧ shown) → exec .selectRequest s = .next idle)))
    ∧ (holding →
      endDirect s = (pinRelease (shows.map Show.slot)
        (discard k (if shows.any (fun x => x.stage = .hold) then lightsOff s else s))).setOut .idle)

/-- R138, R139, R140: SHOW pins its slot and joins the list, its plane asked for at once when nothing is ahead of it but a
show in HOLD; the LOADED and SWAPPED answers of the head show lead to its swap and its hold; the end of its hold darkens the
channels, tells the holder and releases its pin, and the show behind it goes to the swap if it is LOADED; a show that waits
behind a head is loaded once the head is on display. That the rest of the show timer passes is notes/assumptions/4.md, and
that SHOW replies before selection notes/assumptions/15.md. That the pin raise of SHOW reaches the plane store whatever
announcements wait there is the model's choice (notes/assumptions/37.md). -/
def Obligations.ShowsArePlayed : Prop :=
  ∀ (s : State) (p : PortId) (k level : Nat) (timer : Option Nat) (x : Show),
    let holding (u : State) (shows : List Show) (tm : Option Nat) : State :=
      { u with player := { u.player with out := .direct k { port := p, level := level, shows := shows, timer := tm } } }
    let ref : HolderRef := { who := .direct p, number := k }
    (∀ (shows : List Show) (t : State), s = holding s shows timer →
      Asked s p .showPlane (.atBlock .player)
        ([x.number] ++ slotBytes x.slot ++ le2 x.hold ++
          [BitVec.ofNat 8 x.mask.toNat, if x.verify = true then 1 else 0]) →
      1 ≤ x.hold → x.hold ≤ 65535 → shows.length < 2 → (∀ y ∈ shows, y.number ≠ x.number) →
      pinRaise [x.slot] s = .ok t →
      let reply : Answer := { status := .done, body := [BitVec.ofNat 8 shows.length] }
      exec (.showPlane p) s = .next
        (match shows with
          | [] => select ((loadRequest ref x.number.toNat x.slot x.verify
              (holding t [{ x with stage := .staging }] timer)).reply p reply)
          | y :: _ =>
            if y.stage = .hold then
              (loadRequest ref x.number.toNat x.slot x.verify
                (holding t [y, { x with stage := .staging }] timer)).reply p reply
            else (holding t [y, { x with stage := .waiting }] timer).reply p reply))
    ∧ (∀ rest tl, s = holding s (x :: tl) timer → s.fromLink = .loaded k x.number.toNat :: rest → x.stage = .staging →
      (∀ y ∈ tl, y.number ≠ x.number) →
      exec .loadedTaken s = .next
        (swapRequest ref x.number.toNat x.slot
          (holding { s with fromLink := rest } ({ x with stage := .swapping } :: tl) timer)))
    ∧ (∀ rest tl, s = holding s (x :: tl) timer → s.fromLink = .swapped k x.number.toNat :: rest →
      x.stage = .swapping → (∀ y ∈ tl, y.stage ≠ .waiting) →
      exec .swappedTaken s = .next
        (holding (lightRequest ref x.mask (syncPulse { s with fromLink := rest })) ({ x with stage := .hold } :: tl)
          (some (x.hold * 10))))
    ∧ (∀ rest y more, s = holding s (x :: y :: more) timer → s.fromLink = .swapped k x.number.toNat :: rest →
      x.stage = .swapping → y.stage = .waiting →
      exec .swappedTaken s = .next
        (loadRequest ref y.number.toNat y.slot y.verify
          (holding (lightRequest ref x.mask (syncPulse { s with fromLink := rest }))
            ({ x with stage := .hold } :: { y with stage := .staging } :: more) (some (x.hold * 10)))))
    ∧ (∀ d tl, s = holding s (x :: tl) (some d) → s.queue = [] →
      let ended := holding (pinRelease [x.slot] ((lightsOff (s.elapse d)).notify p (.showDone x.number x.slot))) tl none
      exec .showTimerExpiry s = .next
        (match tl with
          | y :: more =>
            if y.stage = .loaded then
              swapRequest ref y.number.toNat y.slot (holding ended ({ y with stage := .swapping } :: more) none)
            else ended
          | [] => ended))

/-! ## Trigger unit -/

/-- R107: CONFIGURE_TRIGGERS, with its refusals: configuration and timeout are set together and the reply carries those
replaced; the latches, the overrun flags and a wait in progress stay as they are. -/
def Obligations.ConfigureTriggersSetsBothInputs : Prop :=
  ∀ (s : State) (p : PortId) (body : List Byte), Asked s p .configureTriggers (.atBlock .trigger) body →
    let refused (st : Status) : Prop := exec (.configureTriggers p) s = .next (s.reply p { status := st, body := [] })
    let bit (b : Bool) : Byte := if b = true then 1 else 0
    (body.length ≠ 6 → refused .badLength)
    ∧ (body.length = 6 → (s.port p).cls = .ordinary → refused .notPermitted)
    ∧ (∀ ea fa eb fb lo hi, body = [ea, fa, eb, fb, lo, hi] → (s.port p).cls = .control →
      ((1 < ea.toNat ∨ 1 < fa.toNat ∨ 1 < eb.toNat ∨ 1 < fb.toNat) → refused .badArgument)
      ∧ (ea.toNat ≤ 1 → fa.toNat ≤ 1 → eb.toNat ≤ 1 → fb.toNat ≤ 1 →
        exec (.configureTriggers p) s = .next
          (({ s with trig := { s.trig with
              cfgA := { enabled := ea == 1, falling := fa == 1 }
              cfgB := { enabled := eb == 1, falling := fb == 1 }
              timeout := lo.toNat + 256 * hi.toNat } } : State).reply p
            { status := .done
              body := [bit s.trig.cfgA.enabled, bit s.trig.cfgA.falling, bit s.trig.cfgB.enabled,
                bit s.trig.cfgB.falling] ++ le2 s.trig.timeout })))

/-- R106, R108, R109, R112, R115: a trigger is an accepted edge or a TRIGGER from a permitted port; it is consumed by a wait
on its source, or sets its clear latch, or is lost on a set one, with TRIGGER_OVERRUN when the overrun flag becomes set. The
expiry of the timeout ends the wait with a fault, and a sync pulse ends by its own timer; that the rest of either timer passes
is notes/assumptions/4.md. A TRIGGER_OVERRUN of a TRIGGER stands before its reply (the model's choice,
notes/assumptions/33.md). -/
def Obligations.TriggersArriveAndTimersEnd : Prop :=
  ∀ (s : State),
    let arrived (x : Source) (u : State) : State :=
      if (u.trig.latch x).pending = true then
        if (u.trig.latch x).overrun = true then u
        else
          ({ u with trig := u.trig.setLatch x { pending := true, overrun := true } } : State).notifyControl
            (.triggerOverrun x)
      else
        match u.trig.wait with
        | some w =>
          if w.source = x then
            { u with trig := { u.trig with wait := none }, fromTrig := u.fromTrig ++ [.consumption w.holder.number] }
          else { u with trig := u.trig.setLatch x { u.trig.latch x with pending := true } }
        | none => { u with trig := u.trig.setLatch x { u.trig.latch x with pending := true } }
    (∀ level, s.resetLow = false → s.trig.levelA ≠ level →
      let u : State := { s with trig := { s.trig with levelA := level } }
      exec (.recognisedLevelChange .a level) s = .next
        (if s.trig.cfgA.enabled = true ∧ s.trig.cfgA.falling = !level then arrived .a u else u))
    ∧ (∀ level, s.resetLow = false → s.trig.levelB ≠ level →
      let u : State := { s with trig := { s.trig with levelB := level } }
      exec (.recognisedLevelChange .b level) s = .next
        (if s.trig.cfgB.enabled = true ∧ s.trig.cfgB.falling = !level then arrived .b u else u))
    ∧ (∀ p, Asked s p .trigger (.atBlock .trigger) [] →
      (((s.port p).cls = .control ∨ (∃ k c, s.player.out = .running k c ∧ c.port = some p)
          ∨ (∃ k d, s.player.out = .direct k d ∧ d.port = p)) →
        exec (.trigger p) s = .next ((arrived .soft s).reply p
          { status := .done
            body := [if s.trig.latchSoft.pending = true then 2
              else if s.trig.wait.map Wait.source = some .soft then 0 else 1] }))
      ∧ ((s.port p).cls = .ordinary → (∀ k c, s.player.out = .running k c → c.port ≠ some p) →
        (∀ k d, s.player.out = .direct k d → d.port ≠ p) →
        exec (.trigger p) s = .next (s.reply p { status := .notPermitted, body := [] })))
    ∧ (∀ w d, s.trig.wait = some w → w.timer = some d →
      exec .triggerTimeoutExpiry s = .next
        { s.elapse d with
          trig := { (s.elapse d).trig with wait := none }
          fromTrig := s.fromTrig ++
            [.fault { kind := .triggerTimeout, number := w.holder.number, item := none, reason := none }] })
    ∧ (∀ d, s.trig.sync = some d →
      exec .syncPulseEnd s = .next { s.elapse d with trig := { (s.elapse d).trig with sync := none } })

/-! ## Plane link and light channels -/

/-- R118 to R122: a fall of DRV_RDY takes the link DOWN from any other state, with everything under way dropped but a
pending blank; a rise takes it from DOWN to AWAIT_BLANKED with a BLANK sent. Either sends LINK_CHANGED and then its report.
That a LOAD the fall stops stays the last message sent is the model's choice (notes/assumptions/36.md). -/
def Obligations.DriverReadyChangesTheLink : Prop :=
  ∀ (s : State),
    (s.link.state ≠ .down →
      exec .drvRdyFall s = .next
        (toPlayer (.report false .presentHolder)
          (({ s with link :=
              { state := .down, identity := none, ignore := false, pendingBlank := s.link.pendingBlank, timer := none
                display := .unknown, msgSlot := none, readCrc := none, sent := s.link.sent } } : State).notifyControl
            (.linkChanged .down s.link.state false))))
    ∧ (s.link.state = .down → s.resetLow = false →
      exec .drvRdyRise s = .next
        (toPlayer (.report true .none)
          (({ s with link :=
              { s.link with
                state := .awaitBlanked, timer := some 2000, pendingBlank := false, sent := some .blank } } :
            State).notifyControl (.linkChanged .awaitBlanked .down true))))

/-- R117, R121, R123, R124, R125, R127, R128: the end of a LOAD's transmission, the four answers in the states that await
them, and the expiry of the answer timer, with the ignore flag clear and nothing waiting to be sent; the answer to a LOAD
under the ignore flag only ends it; a pending blank is sent as the link becomes IDLE; and an answer that is not awaited
changes nothing. R179: the code bytes of the messages sent and of the answers; any other answer is none of the four. The CRC
of a LOAD as sent is notes/assumptions/9.md; that the rest of the answer timer passes is notes/assumptions/4.md. That the
bytes of a LOAD are shown whole, one stopped by a fall of DRV_RDY included, is notes/assumptions/36.md. -/
def Obligations.LinkAnswersAreTaken : Prop :=
  ∀ (s : State) (i : Identity) (damage : Crc32) (reason : Byte),
    let named (kind : FaultKind) (why : Option Byte) : RaisedFault :=
      { kind := kind, number := i.holder.number, item := some (i.idx, i.slot), reason := why }
    let idle (u : State) (identity : Option Identity) : State :=
      { u with
        link := { u.link with
          state := .idle, identity := identity, ignore := false, timer := none, msgSlot := none, readCrc := none } }
    (s.link.ignore = false → s.link.pendingBlank = false →
      (s.link.state = .transmitting → s.link.identity = some i →
        let sent : State := { s with link := { s.link with state := .awaitLoaded, timer := some 2000 } }
        exec (.loadTransmissionEnd damage) s = .next
          (if i.verify = true ∧ s.link.readCrc ≠ some (crc32 (planeData s.planeMem i.slot) ^^^ damage) then
            toPlayer (.fault (named .planeCheck none))
              (mismatchReport i.slot { sent with link := { sent.link with identity := none, ignore := true } })
          else sent))
      ∧ (s.link.state = .awaitLoaded → s.link.identity = some i →
        exec .loadedAnswer s = .next
          (toPlayer (.loaded i.holder.number i.idx) (idle s (some { i with stage := .loaded })))
        ∧ (reason ≠ 0 →
          exec (.rejectedAnswer reason) s = .next (toPlayer (.fault (named .linkReject (some reason))) (idle s none))))
      ∧ (∀ n, s.link.state = .awaitSwapped → s.link.identity = some i → s.link.msgSlot = some n →
        exec .swappedAnswer s = .next
          (toPlayer (.swapped i.holder.number i.idx)
            { s with
              link := { s.link with
                state := .idle, identity := none, timer := none, msgSlot := none, display := .slot n } }))
      ∧ (s.link.state = .awaitBlanked → s.link.identity = none →
        exec .blankedAnswer s = .next
          { s with link := { s.link with state := .idle, timer := none, display := .dark } })
      ∧ (∀ d, (s.link.state = .awaitLoaded ∨ s.link.state = .awaitSwapped) → s.link.identity = some i →
        s.link.timer = some d →
        let failed : Link :=
          { s.link with
            state := .failed, identity := none, ignore := false, timer := none, display := .unknown, msgSlot := none
            readCrc := none }
        exec .answerTimerExpiry s = .next
          (toPlayer (.report false (.named (named .linkTimeout none)))
            (({ s.elapse d with link := failed } : State).notifyControl (.linkChanged .failed s.link.state true)))))
    ∧ (s.link.ignore = true → s.link.pendingBlank = false → s.link.state = .awaitLoaded → s.link.identity = none →
      exec .loadedAnswer s = .next (idle s none)
      ∧ (reason ≠ 0 → exec (.rejectedAnswer reason) s = .next (idle s none)))
    ∧ (s.link.ignore = false → s.link.pendingBlank = true → s.link.state = .awaitLoaded → s.link.identity = some i →
      let blanking : Link :=
        { s.link with
          state := .awaitBlanked, identity := some { i with stage := .loaded }, timer := some 2000, pendingBlank := false
          msgSlot := none, readCrc := none, sent := some .blank }
      exec .loadedAnswer s = .next (toPlayer (.loaded i.holder.number i.idx) { s with link := blanking }))
    ∧ (s.link.state ≠ .awaitLoaded → exec .loadedAnswer s = .next s ∧ exec (.rejectedAnswer reason) s = .next s)
    ∧ exec (.rejectedAnswer 0) s = .next s
    ∧ (s.link.state ≠ .awaitSwapped → exec .swappedAnswer s = .next s)
    ∧ (s.link.state ≠ .awaitBlanked → exec .blankedAnswer s = .next s)
    ∧ (∀ n, s.link.sent = some (.load n) → s.plData = 0x01 :: planeData s.planeMem n)
    ∧ (s.link.sent = some .swap → s.plData = [0x02]) ∧ (s.link.sent = some .blank → s.plData = [0x03])
    ∧ answerRow [0x81] = some .loadedAnswer ∧ answerRow [0x82, reason] = some (.rejectedAnswer reason)
    ∧ answerRow [0x83] = some .swappedAnswer ∧ answerRow [0x84] = some .blankedAnswer
    ∧ (∀ (code : Byte) (more : List Byte), code ≠ 0x81 → code ≠ 0x82 → code ≠ 0x83 → code ≠ 0x84 →
        answerRow (code :: more) = none)

/-- R129, R130, R131: a channel at its limit goes off, is tripped, and raises LIGHT_LIMIT against the holder it was lit for,
and no other channel changes; CONFIGURE_LIGHTS sets the four limits, answers those replaced, and treats in the same way each
channel that is on at or past its new limit, in rising channel order. That the time to the limit passes is
notes/assumptions/4.md; whom a channel is lit for is notes/assumptions/26.md. -/
def Obligations.LightLimitsAreKept : Prop :=
  ∀ (s : State),
    let limited (h : HolderRef) : RaisedFault := { kind := .lightLimit, number := h.number, item := none, reason := none }
    (∀ (c : ChannelId) (h : HolderRef),
      (s.light c).on = true → (s.light c).limit ≠ 0 → (s.light c).holder = some h →
      let d := (s.light c).limit * 100 - (s.light c).onTime
      exec (.lightLimitExpiry c) s = .next
        (({ s.elapse d with fromLights := s.fromLights ++ [limited h] } : State).setLight c
          { on := false, holder := none, onTime := 0, limit := (s.light c).limit, trip := true }))
    ∧ (∀ (p : PortId) (l : Fin 4 → Nat), (∀ ch, l ch < 65536) →
      Asked s p .configureLights (.atBlock .lights) (le2 (l 0) ++ le2 (l 1) ++ le2 (l 2) ++ le2 (l 3)) →
      let past (ch : ChannelId) : Prop := (s.light ch).on = true ∧ l ch ≠ 0 ∧ l ch * 100 ≤ (s.light ch).onTime
      ((s.port p).cls = .ordinary →
        exec (.configureLights p) s = .next (s.reply p { status := .notPermitted, body := [] }))
      ∧ ((s.port p).cls = .control → ∃ t : State,
        exec (.configureLights p) s = .next t
        ∧ (∀ ch, past ch → t.light ch = { on := false, holder := none, onTime := 0, limit := l ch, trip := true })
        ∧ (∀ ch, ¬ past ch → t.light ch = { s.light ch with limit := l ch })
        ∧ (∀ (forced : List ChannelId) (holders : List HolderRef),
            forced.Pairwise (fun a b => a < b) → (∀ ch, ch ∈ forced ↔ past ch) →
            forced.map (fun ch => (s.light ch).holder) = holders.map some →
            { t with lights := s.lights } =
              ({ s with fromLights := s.fromLights ++ holders.map limited } : State).reply p
                { status := .done
                  body := le2 (s.light 0).limit ++ le2 (s.light 1).limit ++ le2 (s.light 2).limit
                    ++ le2 (s.light 3).limit })
        ∧ { t with lights := s.lights, fromLights := s.fromLights } =
            s.reply p
              { status := .done
                body := le2 (s.light 0).limit ++ le2 (s.light 1).limit ++ le2 (s.light 2).limit
                  ++ le2 (s.light 3).limit }))

/-! ## Library loader -/

/-- R28: RESCAN_LIBRARY, with its refusals: a scan begins from the header, whatever the library was. -/
def Obligations.RescanStartsAScan : Prop :=
  ∀ (s : State) (p : PortId) (body : List Byte), Asked s p .rescanLibrary (.atBlock .loader) body →
    let refused (st : Status) (b : List Byte) : Prop :=
      exec (.rescanLibrary p) s = .next (s.reply p { status := st, body := b })
    (body ≠ [] → refused .badLength [])
    ∧ (body = [] → (s.port p).cls = .ordinary → refused .notPermitted [])
    ∧ (body = [] → (s.port p).cls = .control → s.lib.jobs ≠ [] → refused .inUse [BitVec.ofNat 8 s.lib.jobs.length])
    ∧ (body = [] → (s.port p).cls = .control → s.lib.jobs = [] →
      let scanning : Loader :=
        { s.lib with
          state := .scanning, reason := .none, entries := [], dirCrc := 0
          scan := some { header := none, table := [] }
          burst := some { offset := 0, length := 10, timer := some 1000 } }
      exec (.rescanLibrary p) s = .next
        (({ s with lib := scanning } : State).reply p { status := .done, body := [] }))

/-- R25: a PACKED plane, run after run: k + 1 literal bytes behind a header below 128, or one byte repeated k + 3 times
behind a header from 128 on. The expansion of the runs of a whole plane gives its bytes without a format error, and the
expansion of stored bytes that come in two bursts goes on in the second where the first has left it. -/
def Obligations.PackedPlanesExpand : Prop :=
  let run (x : List Byte ⊕ Nat × Byte) : List Byte × List Byte :=
    match x with
    | .inl l => (BitVec.ofNat 8 (l.length - 1) :: l, l)
    | .inr (n, b) => ([BitVec.ofNat 8 (128 + (n - 3)), b], List.replicate n b)
  let fits (x : List Byte ⊕ Nat × Byte) : Prop :=
    match x with
    | .inl l => 1 ≤ l.length ∧ l.length ≤ 128
    | .inr (n, _) => 3 ≤ n ∧ n ≤ 130
  (∀ runs : List (List Byte ⊕ Nat × Byte), (∀ x ∈ runs, fits x) →
    let stored := (runs.map fun x => (run x).1).flatten
    let plane := (runs.map fun x => (run x).2).flatten
    expandRuns stored .header stored.length plane.length = { out := plane, run := .header, failed := false })
  ∧ (∀ (a b : List Byte) (r : RunPart) (stored plane : Nat), (expandRuns a r stored plane).failed = false →
    let x := expandRuns a r stored plane
    let y := expandRuns b x.run (stored - a.length) (plane - x.out.length)
    expandRuns (a ++ b) r stored plane = { out := x.out ++ y.out, run := y.run, failed := y.failed })

/-- R14, R30, R31, R32, R33: LOAD_PLANES with every check passed makes each slot LOADING and queues a job for each pair, in
order; in an empty queue the first job starts at once and reads its first burst, if its entry is usable. The first slot that
another port owns, or that is being filled, loaded or pinned, refuses the request with its position, and nothing changes.
That the load claim reaches the plane store whatever announcements wait there is the model's choice
(notes/assumptions/37.md). -/
def Obligations.LoadPlanesQueuesJobs : Prop :=
  ∀ (s : State) (p : PortId) (pairs : List (SlotId × Nat)),
    1 ≤ pairs.length → pairs.length ≤ 8 → (pairs.map Prod.fst).Nodup →
    s.lib.state = .valid → s.lib.entries.length ≤ 512 → (∀ x ∈ pairs, x.2 < s.lib.entries.length) →
    s.lib.jobs.length + pairs.length ≤ 8 →
    Asked s p .loadPlanes (.atBlock .loader) (pairs.map fun x => slotBytes x.1 ++ le2 x.2).flatten →
    let claimable (n : SlotId) : Prop :=
      (s.slot n).owner = some p
        ∧ ((s.slot n).content = .held ∨ ((s.slot n).isReady = true ∧ (s.slot n).pins = 0))
    let jobs := s.lib.jobs ++ pairs.map fun x => { slot := x.1, entry := x.2, port := p }
    let answer : Answer := { status := .done, body := [BitVec.ofNat 8 (s.lib.jobs.length + pairs.length)] }
    ((∀ x ∈ pairs, claimable x.1) → s.lib.run.isSome = true → ∃ t : State,
      exec (.loadPlanes p) s = .next t
      ∧ (∀ n, t.slot n =
          if n ∈ pairs.map Prod.fst then { s.slot n with content := .loading 0 0, mismatches := 0 } else s.slot n)
      ∧ { t with slots := s.slots } = ({ s with lib := { s.lib with jobs := jobs } } : State).reply p answer)
    ∧ (∀ (n : SlotId) (j : Nat) (e : DirEntry), pairs = [(n, j)] → claimable n → s.lib.run = none → s.lib.jobs = [] →
      s.lib.entries[j]? = some e → e.usable = true →
      let loader : Loader :=
        { s.lib with
          jobs := jobs, run := some { entry := e, taken := 0, run := .header }
          burst := some { offset := e.offset, length := min 256 e.length, timer := some 1000 } }
      exec (.loadPlanes p) s = .next
        (({ s.setSlot n { s.slot n with content := .loading 0 0, mismatches := 0 } with lib := loader } : State).reply p
          answer))
    ∧ (∀ before y after, pairs = before ++ y :: after → (∀ x ∈ before, claimable x.1) →
      ((s.slot y.1).owner ≠ some p →
        exec (.loadPlanes p) s = .next (s.reply p { status := .notOwner, body := [BitVec.ofNat 8 before.length] }))
      ∧ ((s.slot y.1).owner = some p →
        ((∃ k c, (s.slot y.1).content = .filling k c ∨ (s.slot y.1).content = .loading k c)
          ∨ ((s.slot y.1).isReady = true ∧ (s.slot y.1).pins ≠ 0)) →
        exec (.loadPlanes p) s = .next (s.reply p { status := .inUse, body := [BitVec.ofNat 8 before.length] })))

/-- R16, R35, R36: CANCEL_LOAD of a queued job takes it out and leaves its slot HELD with last result CANCELLED; of the
running job it stops the burst too, and the next job starts. The end of a port's session takes out all its jobs, in the same
way, with the result "session ended". That the reply comes before the next job starts is notes/assumptions/16.md. -/
def Obligations.LoadsAreCancelled : Prop :=
  ∀ (s : State) (p : PortId),
    (∀ (n : SlotId) (k e : Nat) (crc : Crc32) (before after : List Job),
      Asked s p .cancelLoad (.atBlock .loader) (slotBytes n) → (s.slot n).owner = some p →
      (s.slot n).content = .loading k crc →
      s.lib.jobs = before ++ { slot := n, entry := e, port := p } :: after → (∀ j ∈ before ++ after, j.slot ≠ n) →
      let ended := s.setSlot n { s.slot n with content := .held, lastResult := .cancelled, mismatches := 0 }
      let done : Answer := { status := .done, body := [] }
      (before ≠ [] → s.lib.run.isSome = true →
        exec (.cancelLoad p) s = .next
          (({ ended with lib := { s.lib with jobs := before ++ after } } : State).reply p done))
      ∧ (before = [] →
        exec (.cancelLoad p) s = .next (startHead
          (({ ended with lib := { s.lib with jobs := after, run := none, burst := none } } : State).reply p done))))
    ∧ (∀ (x : Announcement) (before after : List Announcement),
      s.announcements = before ++ x :: after → x.block = .loader → x.port = p →
      (∀ y ∈ before, ¬ (y.block = .loader ∧ y.port = p)) →
      let headGone := ∃ j, s.lib.jobs.head? = some j ∧ j.port = p
      let u := (s.lib.jobs.filter fun j => j.port = p).foldl (fun u j => loadEnding j.slot .sessionEnded u)
        { s with announcements := before ++ after }
      let kept := s.lib.jobs.filter fun j => j.port ≠ p
      (headGone → exec (.sessionEndLoader p) s = .next (startHead
        { u with lib := { s.lib with jobs := kept, run := none, burst := none } }))
      ∧ (¬ headGone → s.lib.run.isSome = true →
        exec (.sessionEndLoader p) s = .next { u with lib := { s.lib with jobs := kept } }))

/-- R15, R16, R23, R24, R25, R33, R34, R178: the first byte FEh that the flash sends after the command is the start token,
whatever came before it, and the bytes asked for follow it. A burst answered in time brings its bytes. A good header leads to
the table's first burst, a table burst to the next one, and the last to VALID or INVALID by the directory CRC; a bad signature or count ends the
scan INVALID. The bytes of a plane, expanded when it is PACKED, go to its slot, with the next burst asked for; the last ones end
the job: the slot is READY or HELD by the plane CRC, and HELD with a format error when the runs do not fill the plane or a
run passes an end. A burst not answered within its time ends the scan ABSENT, or the running job with a flash error; that the
time passes is notes/assumptions/4.md, and how a plane is expanded burst by burst notes/assumptions/17.md. -/
def Obligations.BurstsBringTheirBytes : Prop :=
  ∀ (s : State) (b : Burst), s.lib.burst = some b →
    let taken : State := { s with lib := { s.lib with burst := none } }
    let scanned (u : State) (st : LibState) (why : InvalidReason) : State :=
      ({ u with lib := { u.lib with
        state := st, reason := why, entries := [], dirCrc := 0, scan := none, burst := none } } : State).notifyControl
        (.libraryScanned st why 0)
    let expanded (r : JobRun) (k : Nat) (data : List Byte) : Expansion :=
      if r.entry.form = 0 then { out := data, run := .header, failed := false }
      else expandRuns data r.run (r.entry.length - r.taken) (65536 - k)
    let written (t : State) (n : SlotId) (k : Nat) (bytes : List Byte) : Prop :=
      (∀ m, m ≠ n → t.slot m = s.slot m)
      ∧ (∀ i (h : i < bytes.length), memRead t.planeMem (planeAddr n (k + i)) = bytes[i])
      ∧ (∀ a, a < planeAddr n k ∨ planeAddr n (k + bytes.length) ≤ a → memRead t.planeMem a = memRead s.planeMem a)
    exec .startToken s = .next { s with lib := { s.lib with burst := some { b with timer := none } } }
    ∧ (∀ before data : List Byte, (∀ x ∈ before, x ≠ 0xFE) →
      let done (data : List Byte) : List Instr :=
        if b.length ≤ data.length then [.flashBurstDone (data.take b.length)] else []
      (b.timer ≠ none → b.rows before = [] ∧ b.rows (before ++ 0xFE :: data) = .startToken :: done data)
      ∧ (b.timer = none → b.rows data = done data))
    ∧ b.command = 0x03 :: (le4 b.offset).take 3
    ∧ (∀ (header : List Byte) (table : List Byte),
      b.timer = none → b.length = 10 → header.length = 10 → s.lib.scan = some { header := none, table := table } →
      let count := field2 header 4
      exec (.flashBurstDone header) s = .next
        (if header.take 4 ≠ [0x56, 0x4A, 0x50, 0x4C] then scanned taken .invalid .badSignature
        else if 512 < count then scanned taken .invalid .badCount
        else if count = 0 then
          if crcAt header 6 = 0 then
            ({ taken with lib := { taken.lib with
              state := .valid, reason := .none, entries := [], dirCrc := 0, scan := none } } : State).notifyControl
              (.libraryScanned .valid .none 0)
          else scanned taken .invalid .badCrc
        else
          { s with lib := { s.lib with
            scan := some { header := some (count, crcAt header 6), table := [] }
            burst := some { offset := 10, length := min 256 (16 * count), timer := some 1000 } } }))
    ∧ (∀ (count : Nat) (crc : Crc32) (table data : List Byte),
      b.timer = none → data.length = b.length → s.lib.scan = some { header := some (count, crc), table := table } →
      let whole := table ++ data
      (whole.length < 16 * count →
        exec (.flashBurstDone data) s = .next
          { s with lib := { s.lib with
            scan := some { header := some (count, crc), table := whole }
            burst := some
              { offset := 10 + whole.length, length := min 256 (16 * count - whole.length), timer := some 1000 } } })
      ∧ (whole.length = 16 * count →
        let entries := List.ofFn fun i : Fin count =>
          { offset := field4 whole (16 * i.val), length := field4 whole (16 * i.val + 4)
            crc := crcAt whole (16 * i.val + 8), form := byteAt whole (16 * i.val + 12)
            label := [byteAt whole (16 * i.val + 13), byteAt whole (16 * i.val + 14), byteAt whole (16 * i.val + 15)] }
        exec (.flashBurstDone data) s = .next
          (if crc32 whole = crc then
            ({ taken with lib := { taken.lib with
              state := .valid, reason := .none, entries := entries, dirCrc := crc, scan := none } } : State).notifyControl
              (.libraryScanned .valid .none count)
          else scanned taken .invalid .badCrc)))
    ∧ (∀ (j : Job) (js : List Job) (r : JobRun) (data : List Byte) (k : Nat) (crc : Crc32),
      b.timer = none → data.length = b.length → s.lib.scan = none → s.lib.jobs = j :: js → s.lib.run = some r →
      (s.slot j.slot).content = .loading k crc → r.taken + data.length < r.entry.length →
      let x := expanded r k data
      x.failed = false → ∃ t : State,
        exec (.flashBurstDone data) s = .next t
        ∧ t.slot j.slot =
            { s.slot j.slot with content := .loading (k + x.out.length) (crc32Carry crc x.out) }
        ∧ written t j.slot k x.out
        ∧ { t with slots := s.slots, planeMem := s.planeMem } =
            { s with lib := { s.lib with
              run := some { entry := r.entry, taken := r.taken + data.length, run := x.run }
              burst := some
                { offset := r.entry.offset + (r.taken + data.length)
                  length := min 256 (r.entry.length - (r.taken + data.length)), timer := some 1000 } } })
    ∧ (∀ (j : Job) (r : JobRun) (data : List Byte) (k : Nat) (crc : Crc32),
      b.timer = none → data.length = b.length → s.lib.scan = none → s.lib.jobs = [j] → s.lib.run = some r →
      (s.slot j.slot).owner = some j.port → (s.slot j.slot).content = .loading k crc →
      let x := expanded r k data
      (x.failed = true ∨ r.entry.length ≤ r.taken + data.length) →
      let whole := x.failed = false ∧ x.out.length = 65536 - k
      let good := whole ∧ crc32Carry crc x.out = r.entry.crc
      ∃ t : State,
        exec (.flashBurstDone data) s = .next t
        ∧ t.slot j.slot =
            (if good then
              { s.slot j.slot with
                content := .ready r.entry.crc (.library j.entry), lastResult := .none, mismatches := 0 }
            else
              { s.slot j.slot with
                content := .held, lastResult := if whole then .checkFailed else .formatError, mismatches := 0 })
        ∧ written t j.slot k x.out
        ∧ { t with slots := s.slots, planeMem := s.planeMem } =
            ({ s with lib := { s.lib with jobs := [], run := none, burst := none } } : State).notify j.port
              (.loadDone j.slot (if good then .loaded else if whole then .checkFailed else .formatError)
                (if good then .ready else .held) (k + x.out.length)))
    ∧ (∀ d, b.timer = some d →
      (∀ sc, s.lib.scan = some sc →
        exec .flashAnswerTimeout s = .next (scanned (s.elapse d) .absent .noAnswer))
      ∧ (∀ (j : Job) (r : JobRun) (k : Nat) (crc : Crc32), s.lib.scan = none → s.lib.jobs = [j] → s.lib.run = some r →
        (s.slot j.slot).owner = some j.port → (s.slot j.slot).content = .loading k crc →
        exec .flashAnswerTimeout s = .next
          ((({ s.elapse d with lib := { s.lib with jobs := [], run := none, burst := none } } : State).setSlot j.slot
            { s.slot j.slot with content := .held, lastResult := .flashError, mismatches := 0 }).notify j.port
            (.loadDone j.slot .flashError .held k))))

/-! ## Reports -/

/-- R20, R26, R27, R51, R52, R70, R102, R116, R132, R176: every reporting request answers what the part holds and changes
nothing else. Widths and absent values that no rule states are notes/assumptions/19.md; units and remainders are
notes/assumptions/31.md; an on-time beyond its 4 bytes is notes/assumptions/34.md; the values of a pin level are
notes/assumptions/35.md. -/
def Obligations.ReportsAnswerWhatIsHeld : Prop :=
  ∀ (s : State) (p : PortId),
    let bit (b : Bool) : Byte := if b = true then 1 else 0
    let byte (n : Nat) : Byte := BitVec.ofNat 8 n
    let reports (i : Instr) (st : Status) (body : List Byte) : Prop :=
      exec i s = .next (s.reply p { status := st, body := body })
    (∀ (first count : Nat) (h : first + count ≤ 448), 1 ≤ count → count ≤ 64 →
      Asked s p .slotStatus (.atBlock .store) (le2 first ++ [byte count]) →
      reports (.slotStatus p) .done
        (List.ofFn fun i : Fin count => slotRecord ⟨first + i.val, by omega⟩ (s.slot ⟨first + i.val, by omega⟩)).flatten)
    ∧ (Asked s p .libraryStatus (.atBlock .loader) [] →
      reports (.libraryStatus p) (if s.lib.state = .valid then .done else .libraryUnavailable)
        ([byte s.lib.state.code, byte s.lib.reason.code]
          ++ (if s.lib.state = .valid then le2 s.lib.entries.length ++ crcBytes s.lib.dirCrc else le2 0 ++ le4 0)
          ++ [byte (if s.lib.state = .valid then s.lib.jobs.length else 0)]))
    ∧ (∀ body, Asked s p .libraryEntry (.atBlock .loader) body →
      (body.length ≠ 2 → reports (.libraryEntry p) .badLength [])
      ∧ (body.length = 2 → s.lib.state ≠ .valid → reports (.libraryEntry p) .libraryUnavailable [])
      ∧ (∀ n : Nat, n < 65536 → body = le2 n → s.lib.state = .valid →
        (s.lib.entries.length ≤ n → reports (.libraryEntry p) .badArgument [])
        ∧ (∀ e, s.lib.entries[n]? = some e → reports (.libraryEntry p) .done
            (le2 n ++ le4 e.offset ++ le4 e.length ++ crcBytes e.crc ++ e.form :: e.label))))
    ∧ (∀ (first count : Nat) (h : first + count ≤ 32), 1 ≤ count →
      Asked s p .sequenceStatus (.atBlock .table) [byte first, byte count] →
      reports (.sequenceStatus p) .done
        (le2 s.poolFree ++ (List.ofFn fun i : Fin count =>
          sequenceRecord ⟨first + i.val, by omega⟩ (s.seq ⟨first + i.val, by omega⟩)).flatten))
    ∧ (∀ body, Asked s p .readSteps (.atBlock .table) body →
      (body.length ≠ 3 → reports (.readSteps p) .badLength [])
      ∧ (∀ x y z : Byte, body = [x, y, z] → 32 ≤ x.toNat → reports (.readSteps p) .badArgument [])
      ∧ (∀ (n : SeqId) (first count : Nat), first < 256 → count < 256 → body = [byte n.val, byte first, byte count] →
        ((s.seq n).state = .empty → reports (.readSteps p) .wrongState [])
        ∧ ((s.seq n).state ≠ .empty → (count < 1 ∨ 64 < count ∨ (s.seq n).steps.length < first + count) →
          reports (.readSteps p) .badArgument [byte (s.seq n).steps.length])
        ∧ ((s.seq n).state ≠ .empty → 1 ≤ count → count ≤ 64 → first + count ≤ (s.seq n).steps.length →
          reports (.readSteps p) .done ((((s.seq n).steps.drop first).take count).map stepRecord).flatten)))
    ∧ (Asked s p .queueStatus (.atBlock .queue) [] →
      reports (.queueStatus p) .done
        (byte s.player.holdLevel :: byte s.queue.length :: (s.queue.map entryRecord).flatten))
    ∧ (Asked s p .playerStatus (.atBlock .player) [] →
      reports (.playerStatus p) .done
        ([byte s.player.out.code, bit (s.player.out = .idle ∧ s.player.linkUp = false), byte s.player.holdLevel]
          ++ (match s.player.designated with | some n => [byte n.val] | none => [0xFF])
          ++ (match s.player.out.contexts with | c :: _ => contextRecord c | [] => List.replicate 12 0xFF)
          ++ (match s.player.out.directParty with | some (q, l, _) => [byte q.val, byte l] | none => [0xFF, 0xFF])
          ++ byte s.player.stack.length :: (s.player.stack.reverse.map contextRecord).flatten
          ++ faultField s.player.faultRecord ++ faultField s.player.haltRecord))
    ∧ (Asked s p .triggerStatus (.atBlock .trigger) [] →
      reports (.triggerStatus p) .done
        ([bit s.trig.cfgA.enabled, bit s.trig.cfgA.falling, bit s.trig.cfgB.enabled, bit s.trig.cfgB.falling]
          ++ le2 s.trig.timeout
          ++ [bit s.trig.levelA, bit s.trig.levelB, bit s.trig.latchA.pending, bit s.trig.latchB.pending,
            bit s.trig.latchSoft.pending, bit s.trig.latchA.overrun, bit s.trig.latchB.overrun,
            bit s.trig.latchSoft.overrun]
          ++ [match s.trig.wait with | some w => byte w.source.code | none => 0xFF]
          ++ le2 (match s.trig.wait with | some { timer := some d, .. } => (d + 999) / 1000 | _ => 0)))
    ∧ (Asked s p .linkStatus (.atBlock .link) [] →
      reports (.linkStatus p) .done
        ([byte s.link.state.code, bit (s.link.state ≠ .down)]
          ++ (match s.link.identity with | some i => identityBytes i | none => List.replicate 9 0xFF)
          ++ [bit s.link.ignore, bit s.link.pendingBlank]
          ++ le2 (s.link.timer.getD 0) ++ s.link.display.bytes
          ++ ((List.finRange 4).map fun c =>
            bit (s.light c).on :: le4 ((s.light c).onTime / 100) ++ le2 (s.light c).limit ++ [bit (s.light c).trip]).flatten))

/-! ## Invariants -/

/-- Every invariant of Sys2Proof/Safety.lean holds right after reset. -/
def Obligations.ResetMeetsTheInvariants : Prop :=
  MemoryCanonical State.reset ∧ PinsCounted State.reset ∧ PoolBalanced State.reset ∧ UsesCounted State.reset
    ∧ PortsAccounted State.reset ∧ LevelsOrdered State.reset ∧ LightsInHold State.reset ∧ LinkConsistent State.reset
    ∧ LatchesConsistent State.reset ∧ LoaderConsistent State.reset

/-- Every step keeps the plane memory in its canonical form: the model's own representation, notes/assumptions/8.md. -/
def Obligations.MemoryStaysCanonical : Prop :=
  ∀ s t : State, MemoryCanonical s → step s = .next t → MemoryCanonical t

/-- R1, R2, R11, R12, R13: every step keeps each slot in agreement with its state and each pin count equal to the number of
references. -/
def Obligations.PinsStayCounted : Prop :=
  ∀ s t : State, PinsCounted s → step s = .next t → PinsCounted t

/-- R39, R41: every step keeps the free records and the steps of all sequences at 1024 together, and each sequence in
agreement with its state. -/
def Obligations.PoolStaysBalanced : Prop :=
  ∀ s t : State, PoolBalanced s → step s = .next t → PoolBalanced t

/-- R53, R95: every step keeps each use count equal to the number of references, every sequence with a use SEALED, and the
present holding number one that has been given. -/
def Obligations.UsesStayCounted : Prop :=
  ∀ s t : State, UsesCounted s → step s = .next t → UsesCounted t

/-- R147, R161, R167, R168: every step keeps each port's accounts: its outstanding count, its bound of 16 notices, its item
numbers, and the item a READ under way sends. -/
def Obligations.PortsStayAccounted : Prop :=
  ∀ s t : State, PortsAccounted s → step s = .next t → PortsAccounted t

/-- R59, R60, R80, R95, R129: every step keeps the queue and the suspension stack in the order of levels, below the holder, and
the channels dark outside a hold; each with the present holding number one that has been given. -/
def Obligations.LevelsAndLightsStayInOrder : Prop :=
  ∀ s t : State, step s = .next t → (LevelsOrdered s → LevelsOrdered t) ∧ (LightsInHold s → LightsInHold t)

/-- R108, R113, R117, R119, R121, R123, R126, R127: every step keeps the plane link and the trigger unit's latches and wait in
agreement with themselves. -/
def Obligations.LinkAndLatchesStayConsistent : Prop :=
  ∀ s t : State, step s = .next t →
    (LinkConsistent s → LinkConsistent t) ∧ (LatchesConsistent s → LatchesConsistent t)

/-- R22, R32: every step keeps the library loader's state, image, jobs and scan in agreement. -/
def Obligations.LoaderStaysConsistent : Prop :=
  ∀ s t : State, LoaderConsistent s → step s = .next t → LoaderConsistent t
end

