-- ==== Sys2Proof/Laws/State.lean ====
section
/-! SUPPORT. What each update of State leaves in each field, and reading a record back from its bank, so that no later proof
unfolds an update. -/

namespace Sys2Proof.Machine

/-! ## setPort -/

@[simp] theorem State.setPort_resetLow (s : State) (p : PortId) (x : Port) : (s.setPort p x).resetLow = s.resetLow := rfl
@[simp] theorem State.setPort_ports (s : State) (p : PortId) (x : Port) : (s.setPort p x).ports = s.ports.set p.val x p.isLt := rfl
@[simp] theorem State.setPort_announcements (s : State) (p : PortId) (x : Port) : (s.setPort p x).announcements = s.announcements := rfl
@[simp] theorem State.setPort_slots (s : State) (p : PortId) (x : Port) : (s.setPort p x).slots = s.slots := rfl
@[simp] theorem State.setPort_planeMem (s : State) (p : PortId) (x : Port) : (s.setPort p x).planeMem = s.planeMem := rfl
@[simp] theorem State.setPort_lib (s : State) (p : PortId) (x : Port) : (s.setPort p x).lib = s.lib := rfl
@[simp] theorem State.setPort_seqs (s : State) (p : PortId) (x : Port) : (s.setPort p x).seqs = s.seqs := rfl
@[simp] theorem State.setPort_poolFree (s : State) (p : PortId) (x : Port) : (s.setPort p x).poolFree = s.poolFree := rfl
@[simp] theorem State.setPort_queue (s : State) (p : PortId) (x : Port) : (s.setPort p x).queue = s.queue := rfl
@[simp] theorem State.setPort_selects (s : State) (p : PortId) (x : Port) : (s.setPort p x).selects = s.selects := rfl
@[simp] theorem State.setPort_player (s : State) (p : PortId) (x : Port) : (s.setPort p x).player = s.player := rfl
@[simp] theorem State.setPort_trig (s : State) (p : PortId) (x : Port) : (s.setPort p x).trig = s.trig := rfl
@[simp] theorem State.setPort_link (s : State) (p : PortId) (x : Port) : (s.setPort p x).link = s.link := rfl
@[simp] theorem State.setPort_lights (s : State) (p : PortId) (x : Port) : (s.setPort p x).lights = s.lights := rfl
@[simp] theorem State.setPort_fromLink (s : State) (p : PortId) (x : Port) : (s.setPort p x).fromLink = s.fromLink := rfl
@[simp] theorem State.setPort_fromTrig (s : State) (p : PortId) (x : Port) : (s.setPort p x).fromTrig = s.fromTrig := rfl
@[simp] theorem State.setPort_fromLights (s : State) (p : PortId) (x : Port) : (s.setPort p x).fromLights = s.fromLights := rfl
@[simp] theorem State.setPort_pending (s : State) (p : PortId) (x : Port) : (s.setPort p x).pending = s.pending := rfl

/-! ## setSlot -/

@[simp] theorem State.setSlot_resetLow (s : State) (n : SlotId) (x : Slot) : (s.setSlot n x).resetLow = s.resetLow := rfl
@[simp] theorem State.setSlot_ports (s : State) (n : SlotId) (x : Slot) : (s.setSlot n x).ports = s.ports := rfl
@[simp] theorem State.setSlot_announcements (s : State) (n : SlotId) (x : Slot) : (s.setSlot n x).announcements = s.announcements := rfl
@[simp] theorem State.setSlot_slots (s : State) (n : SlotId) (x : Slot) : (s.setSlot n x).slots = s.slots.set n.val x n.isLt := rfl
@[simp] theorem State.setSlot_planeMem (s : State) (n : SlotId) (x : Slot) : (s.setSlot n x).planeMem = s.planeMem := rfl
@[simp] theorem State.setSlot_lib (s : State) (n : SlotId) (x : Slot) : (s.setSlot n x).lib = s.lib := rfl
@[simp] theorem State.setSlot_seqs (s : State) (n : SlotId) (x : Slot) : (s.setSlot n x).seqs = s.seqs := rfl
@[simp] theorem State.setSlot_poolFree (s : State) (n : SlotId) (x : Slot) : (s.setSlot n x).poolFree = s.poolFree := rfl
@[simp] theorem State.setSlot_queue (s : State) (n : SlotId) (x : Slot) : (s.setSlot n x).queue = s.queue := rfl
@[simp] theorem State.setSlot_selects (s : State) (n : SlotId) (x : Slot) : (s.setSlot n x).selects = s.selects := rfl
@[simp] theorem State.setSlot_player (s : State) (n : SlotId) (x : Slot) : (s.setSlot n x).player = s.player := rfl
@[simp] theorem State.setSlot_trig (s : State) (n : SlotId) (x : Slot) : (s.setSlot n x).trig = s.trig := rfl
@[simp] theorem State.setSlot_link (s : State) (n : SlotId) (x : Slot) : (s.setSlot n x).link = s.link := rfl
@[simp] theorem State.setSlot_lights (s : State) (n : SlotId) (x : Slot) : (s.setSlot n x).lights = s.lights := rfl
@[simp] theorem State.setSlot_fromLink (s : State) (n : SlotId) (x : Slot) : (s.setSlot n x).fromLink = s.fromLink := rfl
@[simp] theorem State.setSlot_fromTrig (s : State) (n : SlotId) (x : Slot) : (s.setSlot n x).fromTrig = s.fromTrig := rfl
@[simp] theorem State.setSlot_fromLights (s : State) (n : SlotId) (x : Slot) : (s.setSlot n x).fromLights = s.fromLights := rfl
@[simp] theorem State.setSlot_pending (s : State) (n : SlotId) (x : Slot) : (s.setSlot n x).pending = s.pending := rfl

/-! ## setSeq -/

@[simp] theorem State.setSeq_resetLow (s : State) (n : SeqId) (x : Sequence) : (s.setSeq n x).resetLow = s.resetLow := rfl
@[simp] theorem State.setSeq_ports (s : State) (n : SeqId) (x : Sequence) : (s.setSeq n x).ports = s.ports := rfl
@[simp] theorem State.setSeq_announcements (s : State) (n : SeqId) (x : Sequence) : (s.setSeq n x).announcements = s.announcements := rfl
@[simp] theorem State.setSeq_slots (s : State) (n : SeqId) (x : Sequence) : (s.setSeq n x).slots = s.slots := rfl
@[simp] theorem State.setSeq_planeMem (s : State) (n : SeqId) (x : Sequence) : (s.setSeq n x).planeMem = s.planeMem := rfl
@[simp] theorem State.setSeq_lib (s : State) (n : SeqId) (x : Sequence) : (s.setSeq n x).lib = s.lib := rfl
@[simp] theorem State.setSeq_seqs (s : State) (n : SeqId) (x : Sequence) : (s.setSeq n x).seqs = s.seqs.set n.val x n.isLt := rfl
@[simp] theorem State.setSeq_poolFree (s : State) (n : SeqId) (x : Sequence) : (s.setSeq n x).poolFree = s.poolFree := rfl
@[simp] theorem State.setSeq_queue (s : State) (n : SeqId) (x : Sequence) : (s.setSeq n x).queue = s.queue := rfl
@[simp] theorem State.setSeq_selects (s : State) (n : SeqId) (x : Sequence) : (s.setSeq n x).selects = s.selects := rfl
@[simp] theorem State.setSeq_player (s : State) (n : SeqId) (x : Sequence) : (s.setSeq n x).player = s.player := rfl
@[simp] theorem State.setSeq_trig (s : State) (n : SeqId) (x : Sequence) : (s.setSeq n x).trig = s.trig := rfl
@[simp] theorem State.setSeq_link (s : State) (n : SeqId) (x : Sequence) : (s.setSeq n x).link = s.link := rfl
@[simp] theorem State.setSeq_lights (s : State) (n : SeqId) (x : Sequence) : (s.setSeq n x).lights = s.lights := rfl
@[simp] theorem State.setSeq_fromLink (s : State) (n : SeqId) (x : Sequence) : (s.setSeq n x).fromLink = s.fromLink := rfl
@[simp] theorem State.setSeq_fromTrig (s : State) (n : SeqId) (x : Sequence) : (s.setSeq n x).fromTrig = s.fromTrig := rfl
@[simp] theorem State.setSeq_fromLights (s : State) (n : SeqId) (x : Sequence) : (s.setSeq n x).fromLights = s.fromLights := rfl
@[simp] theorem State.setSeq_pending (s : State) (n : SeqId) (x : Sequence) : (s.setSeq n x).pending = s.pending := rfl

/-! ## setLight -/

@[simp] theorem State.setLight_resetLow (s : State) (c : ChannelId) (x : Light) : (s.setLight c x).resetLow = s.resetLow := rfl
@[simp] theorem State.setLight_ports (s : State) (c : ChannelId) (x : Light) : (s.setLight c x).ports = s.ports := rfl
@[simp] theorem State.setLight_announcements (s : State) (c : ChannelId) (x : Light) : (s.setLight c x).announcements = s.announcements := rfl
@[simp] theorem State.setLight_slots (s : State) (c : ChannelId) (x : Light) : (s.setLight c x).slots = s.slots := rfl
@[simp] theorem State.setLight_planeMem (s : State) (c : ChannelId) (x : Light) : (s.setLight c x).planeMem = s.planeMem := rfl
@[simp] theorem State.setLight_lib (s : State) (c : ChannelId) (x : Light) : (s.setLight c x).lib = s.lib := rfl
@[simp] theorem State.setLight_seqs (s : State) (c : ChannelId) (x : Light) : (s.setLight c x).seqs = s.seqs := rfl
@[simp] theorem State.setLight_poolFree (s : State) (c : ChannelId) (x : Light) : (s.setLight c x).poolFree = s.poolFree := rfl
@[simp] theorem State.setLight_queue (s : State) (c : ChannelId) (x : Light) : (s.setLight c x).queue = s.queue := rfl
@[simp] theorem State.setLight_selects (s : State) (c : ChannelId) (x : Light) : (s.setLight c x).selects = s.selects := rfl
@[simp] theorem State.setLight_player (s : State) (c : ChannelId) (x : Light) : (s.setLight c x).player = s.player := rfl
@[simp] theorem State.setLight_trig (s : State) (c : ChannelId) (x : Light) : (s.setLight c x).trig = s.trig := rfl
@[simp] theorem State.setLight_link (s : State) (c : ChannelId) (x : Light) : (s.setLight c x).link = s.link := rfl
@[simp] theorem State.setLight_lights (s : State) (c : ChannelId) (x : Light) : (s.setLight c x).lights = s.lights.set c.val x c.isLt := rfl
@[simp] theorem State.setLight_fromLink (s : State) (c : ChannelId) (x : Light) : (s.setLight c x).fromLink = s.fromLink := rfl
@[simp] theorem State.setLight_fromTrig (s : State) (c : ChannelId) (x : Light) : (s.setLight c x).fromTrig = s.fromTrig := rfl
@[simp] theorem State.setLight_fromLights (s : State) (c : ChannelId) (x : Light) : (s.setLight c x).fromLights = s.fromLights := rfl
@[simp] theorem State.setLight_pending (s : State) (c : ChannelId) (x : Light) : (s.setLight c x).pending = s.pending := rfl

/-! ## setOut -/

@[simp] theorem State.setOut_resetLow (s : State) (o : Output) : (s.setOut o).resetLow = s.resetLow := rfl
@[simp] theorem State.setOut_ports (s : State) (o : Output) : (s.setOut o).ports = s.ports := rfl
@[simp] theorem State.setOut_announcements (s : State) (o : Output) : (s.setOut o).announcements = s.announcements := rfl
@[simp] theorem State.setOut_slots (s : State) (o : Output) : (s.setOut o).slots = s.slots := rfl
@[simp] theorem State.setOut_planeMem (s : State) (o : Output) : (s.setOut o).planeMem = s.planeMem := rfl
@[simp] theorem State.setOut_lib (s : State) (o : Output) : (s.setOut o).lib = s.lib := rfl
@[simp] theorem State.setOut_seqs (s : State) (o : Output) : (s.setOut o).seqs = s.seqs := rfl
@[simp] theorem State.setOut_poolFree (s : State) (o : Output) : (s.setOut o).poolFree = s.poolFree := rfl
@[simp] theorem State.setOut_queue (s : State) (o : Output) : (s.setOut o).queue = s.queue := rfl
@[simp] theorem State.setOut_selects (s : State) (o : Output) : (s.setOut o).selects = s.selects := rfl
@[simp] theorem State.setOut_player (s : State) (o : Output) : (s.setOut o).player = { s.player with out := o } := rfl
@[simp] theorem State.setOut_trig (s : State) (o : Output) : (s.setOut o).trig = s.trig := rfl
@[simp] theorem State.setOut_link (s : State) (o : Output) : (s.setOut o).link = s.link := rfl
@[simp] theorem State.setOut_lights (s : State) (o : Output) : (s.setOut o).lights = s.lights := rfl
@[simp] theorem State.setOut_fromLink (s : State) (o : Output) : (s.setOut o).fromLink = s.fromLink := rfl
@[simp] theorem State.setOut_fromTrig (s : State) (o : Output) : (s.setOut o).fromTrig = s.fromTrig := rfl
@[simp] theorem State.setOut_fromLights (s : State) (o : Output) : (s.setOut o).fromLights = s.fromLights := rfl
@[simp] theorem State.setOut_pending (s : State) (o : Output) : (s.setOut o).pending = s.pending := rfl

/-! ## setRecord -/

@[simp] theorem State.setRecord_resetLow (s : State) (r : FaultRecord) : (s.setRecord r).resetLow = s.resetLow := rfl
@[simp] theorem State.setRecord_ports (s : State) (r : FaultRecord) : (s.setRecord r).ports = s.ports := rfl
@[simp] theorem State.setRecord_announcements (s : State) (r : FaultRecord) : (s.setRecord r).announcements = s.announcements := rfl
@[simp] theorem State.setRecord_slots (s : State) (r : FaultRecord) : (s.setRecord r).slots = s.slots := rfl
@[simp] theorem State.setRecord_planeMem (s : State) (r : FaultRecord) : (s.setRecord r).planeMem = s.planeMem := rfl
@[simp] theorem State.setRecord_lib (s : State) (r : FaultRecord) : (s.setRecord r).lib = s.lib := rfl
@[simp] theorem State.setRecord_seqs (s : State) (r : FaultRecord) : (s.setRecord r).seqs = s.seqs := rfl
@[simp] theorem State.setRecord_poolFree (s : State) (r : FaultRecord) : (s.setRecord r).poolFree = s.poolFree := rfl
@[simp] theorem State.setRecord_queue (s : State) (r : FaultRecord) : (s.setRecord r).queue = s.queue := rfl
@[simp] theorem State.setRecord_selects (s : State) (r : FaultRecord) : (s.setRecord r).selects = s.selects := rfl
@[simp] theorem State.setRecord_player (s : State) (r : FaultRecord) : (s.setRecord r).player = { s.player with faultRecord := some r } := rfl
@[simp] theorem State.setRecord_trig (s : State) (r : FaultRecord) : (s.setRecord r).trig = s.trig := rfl
@[simp] theorem State.setRecord_link (s : State) (r : FaultRecord) : (s.setRecord r).link = s.link := rfl
@[simp] theorem State.setRecord_lights (s : State) (r : FaultRecord) : (s.setRecord r).lights = s.lights := rfl
@[simp] theorem State.setRecord_fromLink (s : State) (r : FaultRecord) : (s.setRecord r).fromLink = s.fromLink := rfl
@[simp] theorem State.setRecord_fromTrig (s : State) (r : FaultRecord) : (s.setRecord r).fromTrig = s.fromTrig := rfl
@[simp] theorem State.setRecord_fromLights (s : State) (r : FaultRecord) : (s.setRecord r).fromLights = s.fromLights := rfl
@[simp] theorem State.setRecord_pending (s : State) (r : FaultRecord) : (s.setRecord r).pending = s.pending := rfl

/-! ## designate -/

@[simp] theorem State.designate_resetLow (s : State) (d : Option SeqId) : (s.designate d).resetLow = s.resetLow := rfl
@[simp] theorem State.designate_ports (s : State) (d : Option SeqId) : (s.designate d).ports = s.ports := rfl
@[simp] theorem State.designate_announcements (s : State) (d : Option SeqId) : (s.designate d).announcements = s.announcements := rfl
@[simp] theorem State.designate_slots (s : State) (d : Option SeqId) : (s.designate d).slots = s.slots := rfl
@[simp] theorem State.designate_planeMem (s : State) (d : Option SeqId) : (s.designate d).planeMem = s.planeMem := rfl
@[simp] theorem State.designate_lib (s : State) (d : Option SeqId) : (s.designate d).lib = s.lib := rfl
@[simp] theorem State.designate_seqs (s : State) (d : Option SeqId) : (s.designate d).seqs = s.seqs := rfl
@[simp] theorem State.designate_poolFree (s : State) (d : Option SeqId) : (s.designate d).poolFree = s.poolFree := rfl
@[simp] theorem State.designate_queue (s : State) (d : Option SeqId) : (s.designate d).queue = s.queue := rfl
@[simp] theorem State.designate_selects (s : State) (d : Option SeqId) : (s.designate d).selects = s.selects := rfl
@[simp] theorem State.designate_player (s : State) (d : Option SeqId) : (s.designate d).player = { s.player with designated := d } := rfl
@[simp] theorem State.designate_trig (s : State) (d : Option SeqId) : (s.designate d).trig = s.trig := rfl
@[simp] theorem State.designate_link (s : State) (d : Option SeqId) : (s.designate d).link = s.link := rfl
@[simp] theorem State.designate_lights (s : State) (d : Option SeqId) : (s.designate d).lights = s.lights := rfl
@[simp] theorem State.designate_fromLink (s : State) (d : Option SeqId) : (s.designate d).fromLink = s.fromLink := rfl
@[simp] theorem State.designate_fromTrig (s : State) (d : Option SeqId) : (s.designate d).fromTrig = s.fromTrig := rfl
@[simp] theorem State.designate_fromLights (s : State) (d : Option SeqId) : (s.designate d).fromLights = s.fromLights := rfl
@[simp] theorem State.designate_pending (s : State) (d : Option SeqId) : (s.designate d).pending = s.pending := rfl

/-! ## setContext -/

@[simp] theorem State.setContext_resetLow (s : State) (c : Context) : (s.setContext c).resetLow = s.resetLow := rfl
@[simp] theorem State.setContext_ports (s : State) (c : Context) : (s.setContext c).ports = s.ports := rfl
@[simp] theorem State.setContext_announcements (s : State) (c : Context) : (s.setContext c).announcements = s.announcements := rfl
@[simp] theorem State.setContext_slots (s : State) (c : Context) : (s.setContext c).slots = s.slots := rfl
@[simp] theorem State.setContext_planeMem (s : State) (c : Context) : (s.setContext c).planeMem = s.planeMem := rfl
@[simp] theorem State.setContext_lib (s : State) (c : Context) : (s.setContext c).lib = s.lib := rfl
@[simp] theorem State.setContext_seqs (s : State) (c : Context) : (s.setContext c).seqs = s.seqs := rfl
@[simp] theorem State.setContext_poolFree (s : State) (c : Context) : (s.setContext c).poolFree = s.poolFree := rfl
@[simp] theorem State.setContext_queue (s : State) (c : Context) : (s.setContext c).queue = s.queue := rfl
@[simp] theorem State.setContext_selects (s : State) (c : Context) : (s.setContext c).selects = s.selects := rfl
@[simp] theorem State.setContext_player (s : State) (c : Context) : (s.setContext c).player = { s.player with out := s.player.out.withContext c } := rfl
@[simp] theorem State.setContext_trig (s : State) (c : Context) : (s.setContext c).trig = s.trig := rfl
@[simp] theorem State.setContext_link (s : State) (c : Context) : (s.setContext c).link = s.link := rfl
@[simp] theorem State.setContext_lights (s : State) (c : Context) : (s.setContext c).lights = s.lights := rfl
@[simp] theorem State.setContext_fromLink (s : State) (c : Context) : (s.setContext c).fromLink = s.fromLink := rfl
@[simp] theorem State.setContext_fromTrig (s : State) (c : Context) : (s.setContext c).fromTrig = s.fromTrig := rfl
@[simp] theorem State.setContext_fromLights (s : State) (c : Context) : (s.setContext c).fromLights = s.fromLights := rfl
@[simp] theorem State.setContext_pending (s : State) (c : Context) : (s.setContext c).pending = s.pending := rfl

/-! ## eachLight -/

@[simp] theorem State.eachLight_resetLow (s : State) (f : ChannelId → Light → Light) : (s.eachLight f).resetLow = s.resetLow := rfl
@[simp] theorem State.eachLight_ports (s : State) (f : ChannelId → Light → Light) : (s.eachLight f).ports = s.ports := rfl
@[simp] theorem State.eachLight_announcements (s : State) (f : ChannelId → Light → Light) : (s.eachLight f).announcements = s.announcements := rfl
@[simp] theorem State.eachLight_slots (s : State) (f : ChannelId → Light → Light) : (s.eachLight f).slots = s.slots := rfl
@[simp] theorem State.eachLight_planeMem (s : State) (f : ChannelId → Light → Light) : (s.eachLight f).planeMem = s.planeMem := rfl
@[simp] theorem State.eachLight_lib (s : State) (f : ChannelId → Light → Light) : (s.eachLight f).lib = s.lib := rfl
@[simp] theorem State.eachLight_seqs (s : State) (f : ChannelId → Light → Light) : (s.eachLight f).seqs = s.seqs := rfl
@[simp] theorem State.eachLight_poolFree (s : State) (f : ChannelId → Light → Light) : (s.eachLight f).poolFree = s.poolFree := rfl
@[simp] theorem State.eachLight_queue (s : State) (f : ChannelId → Light → Light) : (s.eachLight f).queue = s.queue := rfl
@[simp] theorem State.eachLight_selects (s : State) (f : ChannelId → Light → Light) : (s.eachLight f).selects = s.selects := rfl
@[simp] theorem State.eachLight_player (s : State) (f : ChannelId → Light → Light) : (s.eachLight f).player = s.player := rfl
@[simp] theorem State.eachLight_trig (s : State) (f : ChannelId → Light → Light) : (s.eachLight f).trig = s.trig := rfl
@[simp] theorem State.eachLight_link (s : State) (f : ChannelId → Light → Light) : (s.eachLight f).link = s.link := rfl
@[simp] theorem State.eachLight_fromLink (s : State) (f : ChannelId → Light → Light) : (s.eachLight f).fromLink = s.fromLink := rfl
@[simp] theorem State.eachLight_fromTrig (s : State) (f : ChannelId → Light → Light) : (s.eachLight f).fromTrig = s.fromTrig := rfl
@[simp] theorem State.eachLight_fromLights (s : State) (f : ChannelId → Light → Light) : (s.eachLight f).fromLights = s.fromLights := rfl
@[simp] theorem State.eachLight_pending (s : State) (f : ChannelId → Light → Light) : (s.eachLight f).pending = s.pending := rfl

/-! ## hand -/

@[simp] theorem State.hand_resetLow (s : State) (p : PortId) (x : Handed) : (s.hand p x).resetLow = s.resetLow := rfl
@[simp] theorem State.hand_announcements (s : State) (p : PortId) (x : Handed) : (s.hand p x).announcements = s.announcements := rfl
@[simp] theorem State.hand_slots (s : State) (p : PortId) (x : Handed) : (s.hand p x).slots = s.slots := rfl
@[simp] theorem State.hand_planeMem (s : State) (p : PortId) (x : Handed) : (s.hand p x).planeMem = s.planeMem := rfl
@[simp] theorem State.hand_lib (s : State) (p : PortId) (x : Handed) : (s.hand p x).lib = s.lib := rfl
@[simp] theorem State.hand_seqs (s : State) (p : PortId) (x : Handed) : (s.hand p x).seqs = s.seqs := rfl
@[simp] theorem State.hand_poolFree (s : State) (p : PortId) (x : Handed) : (s.hand p x).poolFree = s.poolFree := rfl
@[simp] theorem State.hand_queue (s : State) (p : PortId) (x : Handed) : (s.hand p x).queue = s.queue := rfl
@[simp] theorem State.hand_selects (s : State) (p : PortId) (x : Handed) : (s.hand p x).selects = s.selects := rfl
@[simp] theorem State.hand_player (s : State) (p : PortId) (x : Handed) : (s.hand p x).player = s.player := rfl
@[simp] theorem State.hand_trig (s : State) (p : PortId) (x : Handed) : (s.hand p x).trig = s.trig := rfl
@[simp] theorem State.hand_link (s : State) (p : PortId) (x : Handed) : (s.hand p x).link = s.link := rfl
@[simp] theorem State.hand_lights (s : State) (p : PortId) (x : Handed) : (s.hand p x).lights = s.lights := rfl
@[simp] theorem State.hand_fromLink (s : State) (p : PortId) (x : Handed) : (s.hand p x).fromLink = s.fromLink := rfl
@[simp] theorem State.hand_fromTrig (s : State) (p : PortId) (x : Handed) : (s.hand p x).fromTrig = s.fromTrig := rfl
@[simp] theorem State.hand_fromLights (s : State) (p : PortId) (x : Handed) : (s.hand p x).fromLights = s.fromLights := rfl
@[simp] theorem State.hand_pending (s : State) (p : PortId) (x : Handed) : (s.hand p x).pending = s.pending := rfl

/-! ## notify -/

@[simp] theorem State.notify_resetLow (s : State) (p : PortId) (n : Notice) : (s.notify p n).resetLow = s.resetLow := rfl
@[simp] theorem State.notify_announcements (s : State) (p : PortId) (n : Notice) : (s.notify p n).announcements = s.announcements := rfl
@[simp] theorem State.notify_slots (s : State) (p : PortId) (n : Notice) : (s.notify p n).slots = s.slots := rfl
@[simp] theorem State.notify_planeMem (s : State) (p : PortId) (n : Notice) : (s.notify p n).planeMem = s.planeMem := rfl
@[simp] theorem State.notify_lib (s : State) (p : PortId) (n : Notice) : (s.notify p n).lib = s.lib := rfl
@[simp] theorem State.notify_seqs (s : State) (p : PortId) (n : Notice) : (s.notify p n).seqs = s.seqs := rfl
@[simp] theorem State.notify_poolFree (s : State) (p : PortId) (n : Notice) : (s.notify p n).poolFree = s.poolFree := rfl
@[simp] theorem State.notify_queue (s : State) (p : PortId) (n : Notice) : (s.notify p n).queue = s.queue := rfl
@[simp] theorem State.notify_selects (s : State) (p : PortId) (n : Notice) : (s.notify p n).selects = s.selects := rfl
@[simp] theorem State.notify_player (s : State) (p : PortId) (n : Notice) : (s.notify p n).player = s.player := rfl
@[simp] theorem State.notify_trig (s : State) (p : PortId) (n : Notice) : (s.notify p n).trig = s.trig := rfl
@[simp] theorem State.notify_link (s : State) (p : PortId) (n : Notice) : (s.notify p n).link = s.link := rfl
@[simp] theorem State.notify_lights (s : State) (p : PortId) (n : Notice) : (s.notify p n).lights = s.lights := rfl
@[simp] theorem State.notify_fromLink (s : State) (p : PortId) (n : Notice) : (s.notify p n).fromLink = s.fromLink := rfl
@[simp] theorem State.notify_fromTrig (s : State) (p : PortId) (n : Notice) : (s.notify p n).fromTrig = s.fromTrig := rfl
@[simp] theorem State.notify_fromLights (s : State) (p : PortId) (n : Notice) : (s.notify p n).fromLights = s.fromLights := rfl
@[simp] theorem State.notify_pending (s : State) (p : PortId) (n : Notice) : (s.notify p n).pending = s.pending := rfl

/-! ## notifyControl -/

@[simp] theorem State.notifyControl_resetLow (s : State) (n : Notice) : (s.notifyControl n).resetLow = s.resetLow := rfl
@[simp] theorem State.notifyControl_announcements (s : State) (n : Notice) : (s.notifyControl n).announcements = s.announcements := rfl
@[simp] theorem State.notifyControl_slots (s : State) (n : Notice) : (s.notifyControl n).slots = s.slots := rfl
@[simp] theorem State.notifyControl_planeMem (s : State) (n : Notice) : (s.notifyControl n).planeMem = s.planeMem := rfl
@[simp] theorem State.notifyControl_lib (s : State) (n : Notice) : (s.notifyControl n).lib = s.lib := rfl
@[simp] theorem State.notifyControl_seqs (s : State) (n : Notice) : (s.notifyControl n).seqs = s.seqs := rfl
@[simp] theorem State.notifyControl_poolFree (s : State) (n : Notice) : (s.notifyControl n).poolFree = s.poolFree := rfl
@[simp] theorem State.notifyControl_queue (s : State) (n : Notice) : (s.notifyControl n).queue = s.queue := rfl
@[simp] theorem State.notifyControl_selects (s : State) (n : Notice) : (s.notifyControl n).selects = s.selects := rfl
@[simp] theorem State.notifyControl_player (s : State) (n : Notice) : (s.notifyControl n).player = s.player := rfl
@[simp] theorem State.notifyControl_trig (s : State) (n : Notice) : (s.notifyControl n).trig = s.trig := rfl
@[simp] theorem State.notifyControl_link (s : State) (n : Notice) : (s.notifyControl n).link = s.link := rfl
@[simp] theorem State.notifyControl_lights (s : State) (n : Notice) : (s.notifyControl n).lights = s.lights := rfl
@[simp] theorem State.notifyControl_fromLink (s : State) (n : Notice) : (s.notifyControl n).fromLink = s.fromLink := rfl
@[simp] theorem State.notifyControl_fromTrig (s : State) (n : Notice) : (s.notifyControl n).fromTrig = s.fromTrig := rfl
@[simp] theorem State.notifyControl_fromLights (s : State) (n : Notice) : (s.notifyControl n).fromLights = s.fromLights := rfl
@[simp] theorem State.notifyControl_pending (s : State) (n : Notice) : (s.notifyControl n).pending = s.pending := rfl

/-! ## reply -/

@[simp] theorem State.reply_resetLow (s : State) (p : PortId) (a : Answer) : (s.reply p a).resetLow = s.resetLow := rfl
@[simp] theorem State.reply_announcements (s : State) (p : PortId) (a : Answer) : (s.reply p a).announcements = s.announcements := rfl
@[simp] theorem State.reply_slots (s : State) (p : PortId) (a : Answer) : (s.reply p a).slots = s.slots := rfl
@[simp] theorem State.reply_planeMem (s : State) (p : PortId) (a : Answer) : (s.reply p a).planeMem = s.planeMem := rfl
@[simp] theorem State.reply_lib (s : State) (p : PortId) (a : Answer) : (s.reply p a).lib = s.lib := rfl
@[simp] theorem State.reply_seqs (s : State) (p : PortId) (a : Answer) : (s.reply p a).seqs = s.seqs := rfl
@[simp] theorem State.reply_poolFree (s : State) (p : PortId) (a : Answer) : (s.reply p a).poolFree = s.poolFree := rfl
@[simp] theorem State.reply_queue (s : State) (p : PortId) (a : Answer) : (s.reply p a).queue = s.queue := rfl
@[simp] theorem State.reply_selects (s : State) (p : PortId) (a : Answer) : (s.reply p a).selects = s.selects := rfl
@[simp] theorem State.reply_player (s : State) (p : PortId) (a : Answer) : (s.reply p a).player = s.player := rfl
@[simp] theorem State.reply_trig (s : State) (p : PortId) (a : Answer) : (s.reply p a).trig = s.trig := rfl
@[simp] theorem State.reply_link (s : State) (p : PortId) (a : Answer) : (s.reply p a).link = s.link := rfl
@[simp] theorem State.reply_lights (s : State) (p : PortId) (a : Answer) : (s.reply p a).lights = s.lights := rfl
@[simp] theorem State.reply_fromLink (s : State) (p : PortId) (a : Answer) : (s.reply p a).fromLink = s.fromLink := rfl
@[simp] theorem State.reply_fromTrig (s : State) (p : PortId) (a : Answer) : (s.reply p a).fromTrig = s.fromTrig := rfl
@[simp] theorem State.reply_fromLights (s : State) (p : PortId) (a : Answer) : (s.reply p a).fromLights = s.fromLights := rfl
@[simp] theorem State.reply_pending (s : State) (p : PortId) (a : Answer) : (s.reply p a).pending = s.pending := rfl

/-! ## moveRequest -/

@[simp] theorem State.moveRequest_resetLow (s : State) (p : PortId) (w : Place) : (s.moveRequest p w).resetLow = s.resetLow := rfl
@[simp] theorem State.moveRequest_announcements (s : State) (p : PortId) (w : Place) : (s.moveRequest p w).announcements = s.announcements := rfl
@[simp] theorem State.moveRequest_slots (s : State) (p : PortId) (w : Place) : (s.moveRequest p w).slots = s.slots := rfl
@[simp] theorem State.moveRequest_planeMem (s : State) (p : PortId) (w : Place) : (s.moveRequest p w).planeMem = s.planeMem := rfl
@[simp] theorem State.moveRequest_lib (s : State) (p : PortId) (w : Place) : (s.moveRequest p w).lib = s.lib := rfl
@[simp] theorem State.moveRequest_seqs (s : State) (p : PortId) (w : Place) : (s.moveRequest p w).seqs = s.seqs := rfl
@[simp] theorem State.moveRequest_poolFree (s : State) (p : PortId) (w : Place) : (s.moveRequest p w).poolFree = s.poolFree := rfl
@[simp] theorem State.moveRequest_queue (s : State) (p : PortId) (w : Place) : (s.moveRequest p w).queue = s.queue := rfl
@[simp] theorem State.moveRequest_selects (s : State) (p : PortId) (w : Place) : (s.moveRequest p w).selects = s.selects := rfl
@[simp] theorem State.moveRequest_player (s : State) (p : PortId) (w : Place) : (s.moveRequest p w).player = s.player := rfl
@[simp] theorem State.moveRequest_trig (s : State) (p : PortId) (w : Place) : (s.moveRequest p w).trig = s.trig := rfl
@[simp] theorem State.moveRequest_link (s : State) (p : PortId) (w : Place) : (s.moveRequest p w).link = s.link := rfl
@[simp] theorem State.moveRequest_lights (s : State) (p : PortId) (w : Place) : (s.moveRequest p w).lights = s.lights := rfl
@[simp] theorem State.moveRequest_fromLink (s : State) (p : PortId) (w : Place) : (s.moveRequest p w).fromLink = s.fromLink := rfl
@[simp] theorem State.moveRequest_fromTrig (s : State) (p : PortId) (w : Place) : (s.moveRequest p w).fromTrig = s.fromTrig := rfl
@[simp] theorem State.moveRequest_fromLights (s : State) (p : PortId) (w : Place) : (s.moveRequest p w).fromLights = s.fromLights := rfl
@[simp] theorem State.moveRequest_pending (s : State) (p : PortId) (w : Place) : (s.moveRequest p w).pending = s.pending := rfl

/-! ## elapse -/

@[simp] theorem State.elapse_resetLow (s : State) (d : Nat) : (s.elapse d).resetLow = s.resetLow := rfl
@[simp] theorem State.elapse_ports (s : State) (d : Nat) : (s.elapse d).ports = s.ports := rfl
@[simp] theorem State.elapse_announcements (s : State) (d : Nat) : (s.elapse d).announcements = s.announcements := rfl
@[simp] theorem State.elapse_slots (s : State) (d : Nat) : (s.elapse d).slots = s.slots := rfl
@[simp] theorem State.elapse_planeMem (s : State) (d : Nat) : (s.elapse d).planeMem = s.planeMem := rfl
@[simp] theorem State.elapse_seqs (s : State) (d : Nat) : (s.elapse d).seqs = s.seqs := rfl
@[simp] theorem State.elapse_poolFree (s : State) (d : Nat) : (s.elapse d).poolFree = s.poolFree := rfl
@[simp] theorem State.elapse_queue (s : State) (d : Nat) : (s.elapse d).queue = s.queue := rfl
@[simp] theorem State.elapse_selects (s : State) (d : Nat) : (s.elapse d).selects = s.selects := rfl
@[simp] theorem State.elapse_fromLink (s : State) (d : Nat) : (s.elapse d).fromLink = s.fromLink := rfl
@[simp] theorem State.elapse_fromTrig (s : State) (d : Nat) : (s.elapse d).fromTrig = s.fromTrig := rfl
@[simp] theorem State.elapse_fromLights (s : State) (d : Nat) : (s.elapse d).fromLights = s.fromLights := rfl
@[simp] theorem State.elapse_pending (s : State) (d : Nat) : (s.elapse d).pending = s.pending := rfl

/-! ## Records read back -/

@[simp] theorem State.port_setPort (s : State) (p q : PortId) (x : Port) :
    (s.setPort p x).port q = if q = p then x else s.port q := by
  simp only [State.port, State.setPort, Fin.getElem_fin, Vector.getElem_set, Fin.ext_iff, eq_comm]

@[simp] theorem State.slot_setSlot (s : State) (n m : SlotId) (x : Slot) :
    (s.setSlot n x).slot m = if m = n then x else s.slot m := by
  simp only [State.slot, State.setSlot, Fin.getElem_fin, Vector.getElem_set, Fin.ext_iff, eq_comm]

@[simp] theorem State.seq_setSeq (s : State) (n m : SeqId) (x : Sequence) :
    (s.setSeq n x).seq m = if m = n then x else s.seq m := by
  simp only [State.seq, State.setSeq, Fin.getElem_fin, Vector.getElem_set, Fin.ext_iff, eq_comm]

@[simp] theorem State.light_setLight (s : State) (c d : ChannelId) (x : Light) :
    (s.setLight c x).light d = if d = c then x else s.light d := by
  simp only [State.light, State.setLight, Fin.getElem_fin, Vector.getElem_set, Fin.ext_iff, eq_comm]

/-- Two port writes in a row leave the second. -/
@[simp] theorem State.setPort_setPort (s : State) (p : PortId) (x y : Port) :
    (s.setPort p x).setPort p y = s.setPort p y := by simp [State.setPort]

@[simp] theorem State.setSlot_setSlot (s : State) (n : SlotId) (x y : Slot) :
    (s.setSlot n x).setSlot n y = s.setSlot n y := by simp [State.setSlot]

@[simp] theorem State.setSeq_setSeq (s : State) (n : SeqId) (x y : Sequence) :
    (s.setSeq n x).setSeq n y = s.setSeq n y := by simp [State.setSeq]

@[simp] theorem State.setOut_setOut (s : State) (o o' : Output) : (s.setOut o).setOut o' = s.setOut o' := rfl

/-- Writing back what a port holds changes nothing. -/
@[simp] theorem State.setPort_port (s : State) (p : PortId) : s.setPort p (s.port p) = s := by
  simp [State.setPort, State.port]

@[simp] theorem State.setSlot_slot (s : State) (n : SlotId) : s.setSlot n (s.slot n) = s := by
  simp [State.setSlot, State.slot]

@[simp] theorem State.setSeq_seq (s : State) (n : SeqId) : s.setSeq n (s.seq n) = s := by
  simp [State.setSeq, State.seq]

/-! ## Records of the banks an update leaves alone -/

@[simp] theorem State.slot_setPort (s : State) (p : PortId) (x : Port) (m' : SlotId) : (s.setPort p x).slot m' = s.slot m' := rfl
@[simp] theorem State.seq_setPort (s : State) (p : PortId) (x : Port) (k' : SeqId) : (s.setPort p x).seq k' = s.seq k' := rfl
@[simp] theorem State.light_setPort (s : State) (p : PortId) (x : Port) (c' : ChannelId) : (s.setPort p x).light c' = s.light c' := rfl
@[simp] theorem State.port_setSlot (s : State) (n : SlotId) (x : Slot) (q' : PortId) : (s.setSlot n x).port q' = s.port q' := rfl
@[simp] theorem State.seq_setSlot (s : State) (n : SlotId) (x : Slot) (k' : SeqId) : (s.setSlot n x).seq k' = s.seq k' := rfl
@[simp] theorem State.light_setSlot (s : State) (n : SlotId) (x : Slot) (c' : ChannelId) : (s.setSlot n x).light c' = s.light c' := rfl
@[simp] theorem State.port_setSeq (s : State) (n : SeqId) (x : Sequence) (q' : PortId) : (s.setSeq n x).port q' = s.port q' := rfl
@[simp] theorem State.slot_setSeq (s : State) (n : SeqId) (x : Sequence) (m' : SlotId) : (s.setSeq n x).slot m' = s.slot m' := rfl
@[simp] theorem State.light_setSeq (s : State) (n : SeqId) (x : Sequence) (c' : ChannelId) : (s.setSeq n x).light c' = s.light c' := rfl
@[simp] theorem State.port_setLight (s : State) (c : ChannelId) (x : Light) (q' : PortId) : (s.setLight c x).port q' = s.port q' := rfl
@[simp] theorem State.slot_setLight (s : State) (c : ChannelId) (x : Light) (m' : SlotId) : (s.setLight c x).slot m' = s.slot m' := rfl
@[simp] theorem State.seq_setLight (s : State) (c : ChannelId) (x : Light) (k' : SeqId) : (s.setLight c x).seq k' = s.seq k' := rfl
@[simp] theorem State.port_setOut (s : State) (o : Output) (q' : PortId) : (s.setOut o).port q' = s.port q' := rfl
@[simp] theorem State.slot_setOut (s : State) (o : Output) (m' : SlotId) : (s.setOut o).slot m' = s.slot m' := rfl
@[simp] theorem State.seq_setOut (s : State) (o : Output) (k' : SeqId) : (s.setOut o).seq k' = s.seq k' := rfl
@[simp] theorem State.light_setOut (s : State) (o : Output) (c' : ChannelId) : (s.setOut o).light c' = s.light c' := rfl
@[simp] theorem State.port_setRecord (s : State) (r : FaultRecord) (q' : PortId) : (s.setRecord r).port q' = s.port q' := rfl
@[simp] theorem State.slot_setRecord (s : State) (r : FaultRecord) (m' : SlotId) : (s.setRecord r).slot m' = s.slot m' := rfl
@[simp] theorem State.seq_setRecord (s : State) (r : FaultRecord) (k' : SeqId) : (s.setRecord r).seq k' = s.seq k' := rfl
@[simp] theorem State.light_setRecord (s : State) (r : FaultRecord) (c' : ChannelId) : (s.setRecord r).light c' = s.light c' := rfl
@[simp] theorem State.port_designate (s : State) (d : Option SeqId) (q' : PortId) : (s.designate d).port q' = s.port q' := rfl
@[simp] theorem State.slot_designate (s : State) (d : Option SeqId) (m' : SlotId) : (s.designate d).slot m' = s.slot m' := rfl
@[simp] theorem State.seq_designate (s : State) (d : Option SeqId) (k' : SeqId) : (s.designate d).seq k' = s.seq k' := rfl
@[simp] theorem State.light_designate (s : State) (d : Option SeqId) (c' : ChannelId) : (s.designate d).light c' = s.light c' := rfl
@[simp] theorem State.port_setContext (s : State) (c : Context) (q' : PortId) : (s.setContext c).port q' = s.port q' := rfl
@[simp] theorem State.slot_setContext (s : State) (c : Context) (m' : SlotId) : (s.setContext c).slot m' = s.slot m' := rfl
@[simp] theorem State.seq_setContext (s : State) (c : Context) (k' : SeqId) : (s.setContext c).seq k' = s.seq k' := rfl
@[simp] theorem State.light_setContext (s : State) (c : Context) (c' : ChannelId) : (s.setContext c).light c' = s.light c' := rfl
@[simp] theorem State.port_eachLight (s : State) (f : ChannelId → Light → Light) (q' : PortId) : (s.eachLight f).port q' = s.port q' := rfl
@[simp] theorem State.slot_eachLight (s : State) (f : ChannelId → Light → Light) (m' : SlotId) : (s.eachLight f).slot m' = s.slot m' := rfl
@[simp] theorem State.seq_eachLight (s : State) (f : ChannelId → Light → Light) (k' : SeqId) : (s.eachLight f).seq k' = s.seq k' := rfl
@[simp] theorem State.slot_hand (s : State) (p : PortId) (x : Handed) (m' : SlotId) : (s.hand p x).slot m' = s.slot m' := rfl
@[simp] theorem State.seq_hand (s : State) (p : PortId) (x : Handed) (k' : SeqId) : (s.hand p x).seq k' = s.seq k' := rfl
@[simp] theorem State.light_hand (s : State) (p : PortId) (x : Handed) (c' : ChannelId) : (s.hand p x).light c' = s.light c' := rfl
@[simp] theorem State.slot_notify (s : State) (p : PortId) (n : Notice) (m' : SlotId) : (s.notify p n).slot m' = s.slot m' := rfl
@[simp] theorem State.seq_notify (s : State) (p : PortId) (n : Notice) (k' : SeqId) : (s.notify p n).seq k' = s.seq k' := rfl
@[simp] theorem State.light_notify (s : State) (p : PortId) (n : Notice) (c' : ChannelId) : (s.notify p n).light c' = s.light c' := rfl
@[simp] theorem State.slot_notifyControl (s : State) (n : Notice) (m' : SlotId) : (s.notifyControl n).slot m' = s.slot m' := rfl
@[simp] theorem State.seq_notifyControl (s : State) (n : Notice) (k' : SeqId) : (s.notifyControl n).seq k' = s.seq k' := rfl
@[simp] theorem State.light_notifyControl (s : State) (n : Notice) (c' : ChannelId) : (s.notifyControl n).light c' = s.light c' := rfl
@[simp] theorem State.slot_reply (s : State) (p : PortId) (a : Answer) (m' : SlotId) : (s.reply p a).slot m' = s.slot m' := rfl
@[simp] theorem State.seq_reply (s : State) (p : PortId) (a : Answer) (k' : SeqId) : (s.reply p a).seq k' = s.seq k' := rfl
@[simp] theorem State.light_reply (s : State) (p : PortId) (a : Answer) (c' : ChannelId) : (s.reply p a).light c' = s.light c' := rfl
@[simp] theorem State.slot_moveRequest (s : State) (p : PortId) (w : Place) (m' : SlotId) : (s.moveRequest p w).slot m' = s.slot m' := rfl
@[simp] theorem State.seq_moveRequest (s : State) (p : PortId) (w : Place) (k' : SeqId) : (s.moveRequest p w).seq k' = s.seq k' := rfl
@[simp] theorem State.light_moveRequest (s : State) (p : PortId) (w : Place) (c' : ChannelId) : (s.moveRequest p w).light c' = s.light c' := rfl
@[simp] theorem State.port_elapse (s : State) (d : Nat) (q' : PortId) : (s.elapse d).port q' = s.port q' := rfl
@[simp] theorem State.slot_elapse (s : State) (d : Nat) (m' : SlotId) : (s.elapse d).slot m' = s.slot m' := rfl
@[simp] theorem State.seq_elapse (s : State) (d : Nat) (k' : SeqId) : (s.elapse d).seq k' = s.seq k' := rfl

/-! ## What a bank holds after a change of every record -/

@[simp] theorem getElem_mapBank {α β : Type} {n : Nat} (f : α → β) (v : Vector α n) (i : Nat) (h : i < n) :
    (mapBank f v)[i] = f v[i] := by
  rcases v with ⟨⟨l⟩, hl⟩
  simp [mapBank]

@[simp] theorem State.light_eachLight (s : State) (f : ChannelId → Light → Light) (c : ChannelId) :
    (s.eachLight f).light c = f c (s.light c) := by
  rcases c with ⟨_ | _ | _ | _ | n, h⟩ <;> first | rfl | omega

@[simp] theorem State.light_elapse (s : State) (d : Nat) (c : ChannelId) :
    (s.elapse d).light c = (s.light c).after d := by
  simp [State.light, State.elapse]

@[simp] theorem State.port_eachPort (s : State) (f : PortId → Port → Port) (p : PortId) :
    (s.eachPort f).port p = f p (s.port p) := by
  rcases p with ⟨_ | _ | _ | _ | n, h⟩ <;> first | rfl | omega

@[simp] theorem State.port_hand (s : State) (p q : PortId) (x : Handed) :
    (s.hand p x).port q = if q = p then { s.port p with inbox := (s.port p).inbox ++ [x] } else s.port q := by
  simp [State.hand]

@[simp] theorem State.port_notify (s : State) (p q : PortId) (n : Notice) :
    (s.notify p n).port q = if q = p then { s.port p with inbox := (s.port p).inbox ++ [.notice n] } else s.port q := by
  simp [State.notify]

@[simp] theorem State.port_notifyControl (s : State) (n : Notice) (q : PortId) :
    (s.notifyControl n).port q =
      if (s.port q).cls = .control then { s.port q with inbox := (s.port q).inbox ++ [.notice n] } else s.port q := by
  exact getElem_mapBank _ s.ports q.val q.isLt

@[simp] theorem State.port_reply (s : State) (p q : PortId) (a : Answer) :
    (s.reply p a).port q =
      if q = p then
        { s.port p with
          inExec := (s.port p).inExec.map fun e => { e with place := .answered }
          inbox := (s.port p).inbox ++ [.reply a.status a.body] }
      else s.port q := by
  simp [State.reply]

@[simp] theorem State.port_moveRequest (s : State) (p q : PortId) (w : Place) :
    (s.moveRequest p w).port q =
      if q = p then { s.port p with inExec := (s.port p).inExec.map fun e => { e with place := w } } else s.port q := by
  simp [State.moveRequest]

/-! ## Two banks agree when they agree record by record -/

theorem State.ports_ext {s t : State} (h : ∀ p, s.port p = t.port p) : s.ports = t.ports := by
  apply Vector.ext
  intro i hi
  exact h ⟨i, hi⟩

theorem State.slots_ext {s t : State} (h : ∀ n, s.slot n = t.slot n) : s.slots = t.slots := by
  apply Vector.ext
  intro i hi
  exact h ⟨i, hi⟩

theorem State.seqs_ext {s t : State} (h : ∀ n, s.seq n = t.seq n) : s.seqs = t.seqs := by
  apply Vector.ext
  intro i hi
  exact h ⟨i, hi⟩

theorem State.lights_ext {s t : State} (h : ∀ c, s.light c = t.light c) : s.lights = t.lights := by
  apply Vector.ext
  intro i hi
  exact h ⟨i, hi⟩

end Sys2Proof.Machine
end

