-- ==== Sys2Proof/Laws/Requests.lean ====
section
/-! SUPPORT. What taking a request, an announcement or an expiry does, said once; and what the fields of a request body
read back. -/

namespace Sys2Proof.Machine

/-! ## Requests -/

theorem Asked.request {s : State} {p : PortId} {cmd : Command} {w : Place} {body : List Byte}
    (h : Asked s p cmd w body) :
    ∃ e, s.request p cmd w = some e ∧ e.body = body ∧ s.sessionEnded p e = false := by
  obtain ⟨e, he, hc, hw, hb, hm, ho, hn⟩ := h
  refine ⟨e, ?_, hb, ?_⟩
  · simp [State.request, he, hc, hw, hm]
  · simp [State.sessionEnded, ho, hn]

/-- A request asked for is executed, its reply handed over, and what follows the reply done. -/
theorem serveAt_asked {s : State} {p : PortId} {cmd : Command} {w : Place} {body : List Byte}
    (h : Asked s p cmd w body) (act : List Byte → State → State × Answer) (follow : State → State) :
    serveAt cmd w p act follow s =
      if (act body s).2.status = .done then follow ((act body s).1.reply p (act body s).2)
      else (act body s).1.reply p (act body s).2 := by
  obtain ⟨e, he, hb, hs⟩ := h.request
  simp [serveAt, he, hs, hb]

theorem serve_asked {s : State} {p : PortId} {cmd : Command} {b : Block} {body : List Byte}
    (h : Asked s p cmd (.atBlock b) body) (hb : cmd.block = some b) (act : List Byte → State → State × Answer) :
    serve cmd p act s = (act body s).1.reply p (act body s).2 := by
  simp [serve, hb, serveAt_asked h]

theorem serveThen_asked {s : State} {p : PortId} {cmd : Command} {b : Block} {body : List Byte}
    (h : Asked s p cmd (.atBlock b) body) (hb : cmd.block = some b) (act : List Byte → State → State × Answer)
    (follow : State → State) :
    serveThen cmd p act follow s =
      if (act body s).2.status = .done then follow ((act body s).1.reply p (act body s).2)
      else (act body s).1.reply p (act body s).2 := by
  simp [serveThen, hb, serveAt_asked h]

/-- What a request that stands ready does to a state is one of three things: nothing, NO_SESSION, or its own action. -/
theorem serveAt_cases (cmd : Command) (w : Place) (p : PortId) (act : List Byte → State → State × Answer)
    (follow : State → State) (s : State) :
    serveAt cmd w p act follow s = s
    ∨ serveAt cmd w p act follow s = s.reply p { status := .noSession, body := [] }
    ∨ ∃ body, Asked s p cmd w body ∧ serveAt cmd w p act follow s =
        if (act body s).2.status = .done then follow ((act body s).1.reply p (act body s).2)
        else (act body s).1.reply p (act body s).2 := by
  cases hr : s.request p cmd w with
  | none => exact .inl (by simp [serveAt, hr])
  | some e =>
    cases hs : s.sessionEnded p e with
    | true => exact .inr (.inl (by simp [serveAt, hr, hs]))
    | false =>
      refine .inr (.inr ⟨e.body, ?_, by simp [serveAt, hr, hs]⟩)
      unfold State.request at hr
      split at hr
      · cases hr
      next e' he' =>
        split at hr
        · next hc =>
          cases hr
          have : (s.port p).sessionOpen = true ∧ (s.port p).sessionNo = e.session := by
            simpa [State.sessionEnded] using hs
          exact ⟨e, he', hc.1, hc.2.1, rfl, hc.2.2, this.1, this.2⟩
        · cases hr

/-! ## Announcements -/

/-- A block takes its oldest announcement of a port, wherever it stands in the list. -/
theorem takeAnnouncement_found {b : Block} {p : PortId} {s : State} {x : Announcement} {before after : List Announcement}
    (hs : s.announcements = before ++ x :: after) (hb : x.block = b) (hp : x.port = p)
    (hno : ∀ y ∈ before, ¬ (y.block = b ∧ y.port = p)) (act : State → State) :
    takeAnnouncement b p act s = act { s with announcements := before ++ after } := by
  subst hb hp
  have hfind : s.announcements.find? (fun y => y.block == x.block && y.port == x.port) = some x := by
    rw [hs, List.find?_append]
    have : before.find? (fun y => y.block == x.block && y.port == x.port) = none := by
      rw [List.find?_eq_none]
      intro y hy
      simpa using hno y hy
    simp [this]
  have herase : s.announcements.erase x = before ++ after := by
    rw [hs, List.erase_append_right]
    · simp
    · intro hx
      exact hno x hx ⟨rfl, rfl⟩
  simp [takeAnnouncement, hfind, herase]

/-- Taking an announcement either changes nothing or acts on the state without it. -/
theorem takeAnnouncement_cases (b : Block) (p : PortId) (act : State → State) (s : State) :
    takeAnnouncement b p act s = s
    ∨ ∃ x ∈ s.announcements, x.block = b ∧ x.port = p ∧
        takeAnnouncement b p act s = act { s with announcements := s.announcements.erase x } := by
  cases h : s.announcements.find? (fun x => x.block == b && x.port == p) with
  | none => exact .inl (by simp [takeAnnouncement, h])
  | some x =>
    refine .inr ⟨x, List.mem_of_find?_eq_some h, ?_⟩
    have := List.find?_some h
    simp only [Bool.and_eq_true, beq_iff_eq] at this
    exact ⟨this.1, this.2, by simp [takeAnnouncement, h]⟩

/-! ## Timers -/

@[simp] theorem expire_none (act : State → State) (s : State) : expire none act s = s := rfl

@[simp] theorem expire_some (d : Nat) (act : State → State) (s : State) : expire (some d) act s = act (s.elapse d) := rfl

/-- An expiry either changes nothing or acts once the time left has passed. -/
theorem expire_cases (t : Option Nat) (act : State → State) (s : State) :
    expire t act s = s ∨ ∃ d, t = some d ∧ expire t act s = act (s.elapse d) := by
  cases t with
  | none => exact .inl rfl
  | some d => exact .inr ⟨d, rfl, rfl⟩

/-! ## The field reads of a body -/

@[simp] theorem byteAt_cons_zero (b : Byte) (l : List Byte) : byteAt (b :: l) 0 = b := rfl

@[simp] theorem byteAt_cons_succ (b : Byte) (l : List Byte) (i : Nat) : byteAt (b :: l) (i + 1) = byteAt l i := rfl

@[simp] theorem le2_length (n : Nat) : (le2 n).length = 2 := rfl

@[simp] theorem le4_length (n : Nat) : (le4 n).length = 4 := rfl

theorem byteAt_append_left {l r : List Byte} {i : Nat} (h : i < l.length) : byteAt (l ++ r) i = byteAt l i := by
  simp [byteAt, List.getD_eq_getElem?_getD, List.getElem?_append_left h]

theorem byteAt_append_right (l r : List Byte) (i : Nat) : byteAt (l ++ r) (l.length + i) = byteAt r i := by
  simp [byteAt, List.getD_eq_getElem?_getD, List.getElem?_append_right]

theorem field2_append_right (l r : List Byte) (i : Nat) : field2 (l ++ r) (l.length + i) = field2 r i := by
  simp only [field2, field1, byteAt_append_right, Nat.add_assoc]

theorem field4_append_right (l r : List Byte) (i : Nat) : field4 (l ++ r) (l.length + i) = field4 r i := by
  simp only [field4, field2_append_right, Nat.add_assoc]

/-- A 2-byte field reads back the number it was written from. -/
theorem field2_le2 (n : Nat) (h : n < 65536) (r : List Byte) : field2 (le2 n ++ r) 0 = n := by
  simp [field2, field1, le2, byteAt, BitVec.toNat_ofNat]
  omega

/-- A 4-byte field reads back the number it was written from. -/
theorem field4_le4 (n : Nat) (h : n < 4294967296) (r : List Byte) : field4 (le4 n ++ r) 0 = n := by
  simp [field4, field2, field1, le4, le2, byteAt, BitVec.toNat_ofNat]
  omega

@[simp] theorem slotOf_val (n : SlotId) : slotOf n.val = some n := by simp [slotOf, n.isLt]

@[simp] theorem seqOf_val (n : SeqId) : seqOf n.val = some n := by simp [seqOf, n.isLt]

@[simp] theorem portOf_val (p : PortId) : portOf p.val = some p := by simp [portOf, p.isLt]

theorem field2_slotBytes (n : SlotId) (r : List Byte) : field2 (slotBytes n ++ r) 0 = n.val :=
  field2_le2 n.val (by have := n.isLt; omega) r

/-- A CRC field reads back the CRC it was written from. -/
theorem crcAt_crcBytes (c : Crc32) (r : List Byte) : crcAt (crcBytes c ++ r) 0 = c := by
  simp only [crcAt, crcBytes, field4_le4 c.toNat c.isLt, BitVec.ofNat_toNat, BitVec.setWidth_eq]

/-- A play tag reads back the tag it was written from. -/
theorem tagAt_tagBytes (t : Word16) (r : List Byte) : tagAt (tagBytes t ++ r) 0 = t := by
  simp only [tagAt, tagBytes, field2_le2 t.toNat t.isLt, BitVec.ofNat_toNat, BitVec.setWidth_eq]

theorem tagAt_append_right (l r : List Byte) (i : Nat) : tagAt (l ++ r) (l.length + i) = tagAt r i := by
  simp only [tagAt, field2_append_right]

theorem crcAt_append_right (l r : List Byte) (i : Nat) : crcAt (l ++ r) (l.length + i) = crcAt r i := by
  simp only [crcAt, field4_append_right]

end Sys2Proof.Machine
end

