-- ==== Sys2Proof/Laws/Commands.lean ====
section
/-! SUPPORT. What each request's command does when the request stands ready at its block: its own action, the reply, and what
its rule places after the reply. -/

namespace Sys2Proof.Machine

theorem exec_allocateSlot_asked {s : State} {p : PortId} {body : List Byte} (h : Asked s p .allocateSlot (.atBlock .store) body) :
    exec (.allocateSlot p) s = .next ((allocateSlot p body s).1.reply p (allocateSlot p body s).2) :=
  congrArg Host.Outcome.next (serve_asked h rfl (allocateSlot p))

theorem exec_openFill_asked {s : State} {p : PortId} {body : List Byte} (h : Asked s p .openFill (.atBlock .store) body) :
    exec (.openFill p) s = .next ((openFill p body s).1.reply p (openFill p body s).2) :=
  congrArg Host.Outcome.next (serve_asked h rfl (openFill p))

theorem exec_writePlane_asked {s : State} {p : PortId} {body : List Byte} (h : Asked s p .writePlane (.atBlock .store) body) :
    exec (.writePlane p) s = .next ((writePlane p body s).1.reply p (writePlane p body s).2) :=
  congrArg Host.Outcome.next (serve_asked h rfl (writePlane p))

theorem exec_closeFill_asked {s : State} {p : PortId} {body : List Byte} (h : Asked s p .closeFill (.atBlock .store) body) :
    exec (.closeFill p) s = .next ((closeFill p body s).1.reply p (closeFill p body s).2) :=
  congrArg Host.Outcome.next (serve_asked h rfl (closeFill p))

theorem exec_abandonFill_asked {s : State} {p : PortId} {body : List Byte} (h : Asked s p .abandonFill (.atBlock .store) body) :
    exec (.abandonFill p) s = .next ((abandonFill p body s).1.reply p (abandonFill p body s).2) :=
  congrArg Host.Outcome.next (serve_asked h rfl (abandonFill p))

theorem exec_freeSlot_asked {s : State} {p : PortId} {body : List Byte} (h : Asked s p .freeSlot (.atBlock .store) body) :
    exec (.freeSlot p) s = .next ((freeSlot p body s).1.reply p (freeSlot p body s).2) :=
  congrArg Host.Outcome.next (serve_asked h rfl (freeSlot p))

theorem exec_slotStatus_asked {s : State} {p : PortId} {body : List Byte} (h : Asked s p .slotStatus (.atBlock .store) body) :
    exec (.slotStatus p) s = .next ((slotStatus body s).1.reply p (slotStatus body s).2) :=
  congrArg Host.Outcome.next (serve_asked h rfl (slotStatus))

theorem exec_libraryStatus_asked {s : State} {p : PortId} {body : List Byte} (h : Asked s p .libraryStatus (.atBlock .loader) body) :
    exec (.libraryStatus p) s = .next ((libraryStatus body s).1.reply p (libraryStatus body s).2) :=
  congrArg Host.Outcome.next (serve_asked h rfl (libraryStatus))

theorem exec_libraryEntry_asked {s : State} {p : PortId} {body : List Byte} (h : Asked s p .libraryEntry (.atBlock .loader) body) :
    exec (.libraryEntry p) s = .next ((libraryEntry body s).1.reply p (libraryEntry body s).2) :=
  congrArg Host.Outcome.next (serve_asked h rfl (libraryEntry))

theorem exec_rescanLibrary_asked {s : State} {p : PortId} {body : List Byte} (h : Asked s p .rescanLibrary (.atBlock .loader) body) :
    exec (.rescanLibrary p) s = .next ((rescanLibrary p body s).1.reply p (rescanLibrary p body s).2) :=
  congrArg Host.Outcome.next (serve_asked h rfl (rescanLibrary p))

theorem exec_loadPlanes_asked {s : State} {p : PortId} {body : List Byte} (h : Asked s p .loadPlanes (.atBlock .loader) body) :
    exec (.loadPlanes p) s = .next
      (if (loadPlanes p body s).2.status = .done then startHead ((loadPlanes p body s).1.reply p (loadPlanes p body s).2)
      else (loadPlanes p body s).1.reply p (loadPlanes p body s).2) :=
  congrArg Host.Outcome.next (serveThen_asked h rfl (loadPlanes p) startHead)

theorem exec_cancelLoad_asked {s : State} {p : PortId} {body : List Byte} (h : Asked s p .cancelLoad (.atBlock .loader) body) :
    exec (.cancelLoad p) s = .next
      (if (cancelLoad p body s).2.status = .done then startHead ((cancelLoad p body s).1.reply p (cancelLoad p body s).2)
      else (cancelLoad p body s).1.reply p (cancelLoad p body s).2) :=
  congrArg Host.Outcome.next (serveThen_asked h rfl (cancelLoad p) startHead)

theorem exec_createSequence_asked {s : State} {p : PortId} {body : List Byte} (h : Asked s p .createSequence (.atBlock .table) body) :
    exec (.createSequence p) s = .next ((createSequence p body s).1.reply p (createSequence p body s).2) :=
  congrArg Host.Outcome.next (serve_asked h rfl (createSequence p))

theorem exec_appendSteps_asked {s : State} {p : PortId} {body : List Byte} (h : Asked s p .appendSteps (.atBlock .table) body) :
    exec (.appendSteps p) s = .next ((appendSteps p body s).1.reply p (appendSteps p body s).2) :=
  congrArg Host.Outcome.next (serve_asked h rfl (appendSteps p))

theorem exec_removeSteps_asked {s : State} {p : PortId} {body : List Byte} (h : Asked s p .removeSteps (.atBlock .table) body) :
    exec (.removeSteps p) s = .next ((removeSteps p body s).1.reply p (removeSteps p body s).2) :=
  congrArg Host.Outcome.next (serve_asked h rfl (removeSteps p))

theorem exec_setRepeat_asked {s : State} {p : PortId} {body : List Byte} (h : Asked s p .setRepeat (.atBlock .table) body) :
    exec (.setRepeat p) s = .next ((setRepeat p body s).1.reply p (setRepeat p body s).2) :=
  congrArg Host.Outcome.next (serve_asked h rfl (setRepeat p))

theorem exec_sealSequence_asked {s : State} {p : PortId} {body : List Byte} (h : Asked s p .sealSequence (.atBlock .table) body) :
    exec (.sealSequence p) s = .next ((sealSequence p body s).1.reply p (sealSequence p body s).2) :=
  congrArg Host.Outcome.next (serve_asked h rfl (sealSequence p))

theorem exec_unsealSequence_asked {s : State} {p : PortId} {body : List Byte} (h : Asked s p .unsealSequence (.atBlock .table) body) :
    exec (.unsealSequence p) s = .next ((unsealSequence p body s).1.reply p (unsealSequence p body s).2) :=
  congrArg Host.Outcome.next (serve_asked h rfl (unsealSequence p))

theorem exec_deleteSequence_asked {s : State} {p : PortId} {body : List Byte} (h : Asked s p .deleteSequence (.atBlock .table) body) :
    exec (.deleteSequence p) s = .next ((deleteSequence p body s).1.reply p (deleteSequence p body s).2) :=
  congrArg Host.Outcome.next (serve_asked h rfl (deleteSequence p))

theorem exec_sequenceStatus_asked {s : State} {p : PortId} {body : List Byte} (h : Asked s p .sequenceStatus (.atBlock .table) body) :
    exec (.sequenceStatus p) s = .next ((sequenceStatus body s).1.reply p (sequenceStatus body s).2) :=
  congrArg Host.Outcome.next (serve_asked h rfl (sequenceStatus))

theorem exec_readSteps_asked {s : State} {p : PortId} {body : List Byte} (h : Asked s p .readSteps (.atBlock .table) body) :
    exec (.readSteps p) s = .next ((readSteps body s).1.reply p (readSteps body s).2) :=
  congrArg Host.Outcome.next (serve_asked h rfl (readSteps))

theorem exec_submit_asked {s : State} {p : PortId} {body : List Byte} (h : Asked s p .submit (.atBlock .queue) body) :
    exec (.submit p) s = .next
      (if (submit p body s).2.status = .done then askSelect ((submit p body s).1.reply p (submit p body s).2)
      else (submit p body s).1.reply p (submit p body s).2) :=
  congrArg Host.Outcome.next (serveThen_asked h rfl (submit p) askSelect)

theorem exec_requestDirect_asked {s : State} {p : PortId} {body : List Byte} (h : Asked s p .requestDirect (.atBlock .queue) body) :
    exec (.requestDirect p) s = .next
      (if (requestDirect p body s).2.status = .done then askSelect ((requestDirect p body s).1.reply p (requestDirect p body s).2)
      else (requestDirect p body s).1.reply p (requestDirect p body s).2) :=
  congrArg Host.Outcome.next (serveThen_asked h rfl (requestDirect p) askSelect)

theorem exec_queueStatus_asked {s : State} {p : PortId} {body : List Byte} (h : Asked s p .queueStatus (.atBlock .queue) body) :
    exec (.queueStatus p) s = .next ((queueStatus body s).1.reply p (queueStatus body s).2) :=
  congrArg Host.Outcome.next (serve_asked h rfl (queueStatus))

theorem exec_setHoldLevel_asked {s : State} {p : PortId} {body : List Byte} (h : Asked s p .setHoldLevel (.atBlock .player) body) :
    exec (.setHoldLevel p) s = .next
      (if (setHoldLevel p body s).2.status = .done then select ((setHoldLevel p body s).1.reply p (setHoldLevel p body s).2)
      else (setHoldLevel p body s).1.reply p (setHoldLevel p body s).2) :=
  congrArg Host.Outcome.next (serveThen_asked h rfl (setHoldLevel p) select)

theorem exec_setFallback_asked {s : State} {p : PortId} {body : List Byte} (h : Asked s p .setFallback (.atBlock .player) body) :
    exec (.setFallback p) s = .next ((setFallback p body s).1.reply p (setFallback p body s).2) :=
  congrArg Host.Outcome.next (serve_asked h rfl (setFallback p))

theorem exec_clearHalt_asked {s : State} {p : PortId} {body : List Byte} (h : Asked s p .clearHalt (.atBlock .player) body) :
    exec (.clearHalt p) s = .next
      (if (clearHalt p body s).2.status = .done then select ((clearHalt p body s).1.reply p (clearHalt p body s).2)
      else (clearHalt p body s).1.reply p (clearHalt p body s).2) :=
  congrArg Host.Outcome.next (serveThen_asked h rfl (clearHalt p) select)

theorem exec_resetPlayer_asked {s : State} {p : PortId} {body : List Byte} (h : Asked s p .resetPlayer (.atBlock .player) body) :
    exec (.resetPlayer p) s = .next ((resetPlayer p body s).1.reply p (resetPlayer p body s).2) :=
  congrArg Host.Outcome.next (serve_asked h rfl (resetPlayer p))

theorem exec_playerStatus_asked {s : State} {p : PortId} {body : List Byte} (h : Asked s p .playerStatus (.atBlock .player) body) :
    exec (.playerStatus p) s = .next ((playerStatus body s).1.reply p (playerStatus body s).2) :=
  congrArg Host.Outcome.next (serve_asked h rfl (playerStatus))

theorem exec_acceptDirect_asked {s : State} {p : PortId} {body : List Byte} (h : Asked s p .acceptDirect (.atBlock .player) body) :
    exec (.acceptDirect p) s = .next
      (if (acceptDirect p body s).2.status = .done then select ((acceptDirect p body s).1.reply p (acceptDirect p body s).2)
      else (acceptDirect p body s).1.reply p (acceptDirect p body s).2) :=
  congrArg Host.Outcome.next (serveThen_asked h rfl (acceptDirect p) select)

theorem exec_showPlane_asked {s : State} {p : PortId} {body : List Byte} (h : Asked s p .showPlane (.atBlock .player) body) :
    exec (.showPlane p) s = .next
      (if (showPlane p body s).2.status = .done then selectForHead ((showPlane p body s).1.reply p (showPlane p body s).2)
      else (showPlane p body s).1.reply p (showPlane p body s).2) :=
  congrArg Host.Outcome.next (serveThen_asked h rfl (showPlane p) selectForHead)

theorem exec_releaseDirect_asked {s : State} {p : PortId} {body : List Byte} (h : Asked s p .releaseDirect (.atBlock .player) body) :
    exec (.releaseDirect p) s = .next
      (if (releaseDirect p body s).2.status = .done then (if s.queue.any (Entry.isDirect p) then id else select) ((releaseDirect p body s).1.reply p (releaseDirect p body s).2)
      else (releaseDirect p body s).1.reply p (releaseDirect p body s).2) :=
  congrArg Host.Outcome.next (serveThen_asked h rfl (releaseDirect p) (if s.queue.any (Entry.isDirect p) then id else select))

theorem exec_configureTriggers_asked {s : State} {p : PortId} {body : List Byte} (h : Asked s p .configureTriggers (.atBlock .trigger) body) :
    exec (.configureTriggers p) s = .next ((configureTriggers p body s).1.reply p (configureTriggers p body s).2) :=
  congrArg Host.Outcome.next (serve_asked h rfl (configureTriggers p))

theorem exec_trigger_asked {s : State} {p : PortId} {body : List Byte} (h : Asked s p .trigger (.atBlock .trigger) body) :
    exec (.trigger p) s = .next ((softTrigger p body s).1.reply p (softTrigger p body s).2) :=
  congrArg Host.Outcome.next (serve_asked h rfl (softTrigger p))

theorem exec_triggerStatus_asked {s : State} {p : PortId} {body : List Byte} (h : Asked s p .triggerStatus (.atBlock .trigger) body) :
    exec (.triggerStatus p) s = .next ((triggerStatus body s).1.reply p (triggerStatus body s).2) :=
  congrArg Host.Outcome.next (serve_asked h rfl (triggerStatus))

theorem exec_configureLights_asked {s : State} {p : PortId} {body : List Byte} (h : Asked s p .configureLights (.atBlock .lights) body) :
    exec (.configureLights p) s = .next ((configureLights p body s).1.reply p (configureLights p body s).2) :=
  congrArg Host.Outcome.next (serve_asked h rfl (configureLights p))

theorem exec_linkStatus_asked {s : State} {p : PortId} {body : List Byte} (h : Asked s p .linkStatus (.atBlock .link) body) :
    exec (.linkStatus p) s = .next ((linkStatus body s).1.reply p (linkStatus body s).2) :=
  congrArg Host.Outcome.next (serve_asked h rfl (linkStatus))

theorem exec_cancelContext_asked {s : State} {p : PortId} {body : List Byte} (h : Asked s p .cancel .passedCancel body) :
    exec (.cancelContext p) s = .next
      (if (cancelContext body s).2.status = .done then selectIfIdle ((cancelContext body s).1.reply p (cancelContext body s).2)
      else (cancelContext body s).1.reply p (cancelContext body s).2) :=
  congrArg Host.Outcome.next (serveAt_asked h cancelContext selectIfIdle)

theorem exec_cancelFallback_asked {s : State} {p : PortId} {body : List Byte} (h : Asked s p .cancel .passedFallback body) :
    exec (.cancelFallback p) s = .next
      (if (cancelFallback body s).2.status = .done then selectIfIdle ((cancelFallback body s).1.reply p (cancelFallback body s).2)
      else (cancelFallback body s).1.reply p (cancelFallback body s).2) :=
  congrArg Host.Outcome.next (serveAt_asked h cancelFallback selectIfIdle)

/-- CANCEL at the queue is answered, or passed to the player. -/
theorem exec_cancel_asked {s : State} {p : PortId} {body : List Byte} (h : Asked s p .cancel (.atBlock .queue) body) :
    exec (.cancel p) s = .next
      (match cancelChecks p body s with
      | .answer r => r.1.reply p r.2
      | .pass place => s.moveRequest p place) := by
  obtain ⟨e, he, hb, hs⟩ := h.request
  simp only [exec, execCancel, cancelAtQueue, he, hs, hb]
  rfl

end Sys2Proof.Machine
end

