-- ==== Sys2Proof/Laws/Library.lean ====
section
/-! SUPPORT. How the bytes that the flash sends are read, said once. -/

namespace Sys2Proof.Machine

@[simp] theorem afterToken_nil : afterToken [] = none := rfl
@[simp] theorem afterToken_token (data : List Byte) : afterToken (0xFE :: data) = some data := rfl

theorem afterToken_cons {x : Byte} (h : x ≠ 0xFE) (rest : List Byte) : afterToken (x :: rest) = afterToken rest :=
  if_neg h

/-- Bytes that are no start token are passed over. -/
theorem afterToken_append {before : List Byte} (h : ∀ x ∈ before, x ≠ 0xFE) (rest : List Byte) :
    afterToken (before ++ rest) = afterToken rest := by
  induction before with
  | nil => rfl
  | cons x xs ih =>
    rw [List.cons_append, afterToken_cons (h x (by simp)), ih fun y hy => h y (by simp [hy])]

/-- The start token is the first byte FEh: what `afterToken` gives stands right behind it. -/
theorem afterToken_eq_some {bytes data : List Byte} :
    afterToken bytes = some data ↔ ∃ before, bytes = before ++ 0xFE :: data ∧ ∀ x ∈ before, x ≠ 0xFE := by
  constructor
  · induction bytes with
    | nil => simp
    | cons x xs ih =>
      by_cases hx : x = 0xFE
      · subst hx
        exact fun h => ⟨[], congrArg (0xFE :: ·) (Option.some.inj h), by simp⟩
      · rw [afterToken_cons hx]
        intro h
        obtain ⟨before, rfl, hb⟩ := ih h
        exact ⟨x :: before, rfl, List.forall_mem_cons.mpr ⟨hx, hb⟩⟩
  · rintro ⟨before, rfl, hb⟩
    rw [afterToken_append hb, afterToken_token]

end Sys2Proof.Machine
end

