-- ==== Sys2Proof/Laws/Slots.lean ====
section
/-! SUPPORT. What the shared operations over slots and sequences leave alone, and what a list of pins does to each slot. -/

namespace Sys2Proof.Machine

/-! ## Pins -/

/-- Pinning a list raises each slot by the number of times it is named, and changes nothing but slots. -/
theorem foldl_pinOne (l : List SlotId) : ∀ s : State,
    (∀ n, (l.foldl pinOne s).slot n = { s.slot n with pins := (s.slot n).pins + l.count n })
      ∧ { l.foldl pinOne s with slots := s.slots } = s := by
  induction l with
  | nil => intro s; simp
  | cons a l ih =>
    intro s
    obtain ⟨h1, h2⟩ := ih (pinOne s a)
    refine ⟨fun n => ?_, ?_⟩
    · rw [List.foldl_cons, h1]
      simp only [pinOne, State.slot_setSlot, List.count_cons]
      by_cases h : n = a
      · subst h; simp; omega
      · simp [h, Ne.symm h]
    · have := congrArg (fun t : State => { t with slots := s.slots }) h2
      exact this

/-- Unpinning a list lowers each slot by the number of times it is named, and changes nothing but slots. -/
theorem foldl_unpinOne (l : List SlotId) : ∀ s : State,
    (∀ n, (l.foldl unpinOne s).slot n = { s.slot n with pins := (s.slot n).pins - l.count n })
      ∧ { l.foldl unpinOne s with slots := s.slots } = s := by
  induction l with
  | nil => intro s; simp
  | cons a l ih =>
    intro s
    obtain ⟨h1, h2⟩ := ih (unpinOne s a)
    refine ⟨fun n => ?_, ?_⟩
    · rw [List.foldl_cons, h1]
      simp only [unpinOne, State.slot_setSlot, List.count_cons]
      by_cases h : n = a
      · subst h; simp; omega
      · simp [h, Ne.symm h]
    · have := congrArg (fun t : State => { t with slots := s.slots }) h2
      exact this

theorem slot_freeOrphan (s : State) (a n : SlotId) :
    (freeOrphan s a).slot n =
      if n = a ∧ (s.slot n).pins = 0 ∧ (s.slot n).orphan = true then Slot.free else s.slot n := by
  unfold freeOrphan
  split <;> by_cases h : n = a
  · subst h; simp_all
  · simp [h]
  · subst h; simp_all
  · simp [h]

/-- Freeing the orphans of a list frees those without a pin, and changes nothing but slots. -/
theorem foldl_freeOrphan (l : List SlotId) : ∀ s : State,
    (∀ n, (l.foldl freeOrphan s).slot n =
      if n ∈ l ∧ (s.slot n).pins = 0 ∧ (s.slot n).orphan = true then Slot.free else s.slot n)
      ∧ { l.foldl freeOrphan s with slots := s.slots } = s := by
  induction l with
  | nil => intro s; simp
  | cons a l ih =>
    intro s
    obtain ⟨h1, h2⟩ := ih (freeOrphan s a)
    have h3 : { freeOrphan s a with slots := s.slots } = s := by unfold freeOrphan; split <;> rfl
    refine ⟨fun n => ?_, ?_⟩
    · rw [List.foldl_cons, h1, slot_freeOrphan]
      by_cases h : n = a
      · subst h
        by_cases hc : (s.slot n).pins = 0 ∧ (s.slot n).orphan = true <;> simp [hc, Slot.free]
      · simp [h]
    · have := congrArg (fun t : State => { t with slots := s.slots }) h2
      exact this.trans h3

/-- A pin release changes nothing but slots. -/
theorem pinRelease_frame (l : List SlotId) (s : State) : { pinRelease l s with slots := s.slots } = s := by
  have h := congrArg (fun t : State => { t with slots := s.slots }) (foldl_freeOrphan l (l.foldl unpinOne s)).2
  exact h.trans (foldl_unpinOne l s).2

/-- A pin raise that succeeds changes nothing but slots. -/
theorem pinRaise_frame {l : List SlotId} {s t : State} (h : pinRaise l s = .ok t) : { t with slots := s.slots } = s := by
  unfold pinRaise at h
  split at h
  · cases h
  · cases h
    exact (foldl_pinOne l s).2

/-- A pin raise that fails names a position of its list. -/
theorem pinRaise_error {l : List SlotId} {s : State} {i : Nat} (h : pinRaise l s = .error i) : i < l.length := by
  unfold pinRaise at h
  split at h
  next j hj =>
    cases h
    exact (List.findIdx?_eq_some_iff_getElem.mp hj).1
  · cases h

/-! ## Uses -/

/-- An emptied sequence changes nothing but sequences, the pool and slots. -/
theorem emptySequence_frame (n : SeqId) (s : State) :
    { emptySequence n s with slots := s.slots, seqs := s.seqs, poolFree := s.poolFree } = s := by
  have h := pinRelease_frame ((s.seq n).steps.map Step.slot)
    { s.setSeq n Sequence.empty with poolFree := s.poolFree + (s.seq n).steps.length }
  exact congrArg (fun t : State => { t with seqs := s.seqs, poolFree := s.poolFree }) h

/-- A use release changes nothing but sequences, the pool and slots. -/
theorem useRelease_frame (n : SeqId) (s : State) :
    { useRelease n s with slots := s.slots, seqs := s.seqs, poolFree := s.poolFree } = s := by
  unfold useRelease
  dsimp only
  split
  · have h := emptySequence_frame n (s.setSeq n { s.seq n with uses := (s.seq n).uses - 1 })
    exact congrArg (fun t : State => { t with slots := s.slots, seqs := s.seqs, poolFree := s.poolFree }) h
  · rfl

/-- A use raise that succeeds changes one sequence. -/
theorem useRaise_eq {n : SeqId} {s t : State} (h : useRaise n s = some t) :
    (s.seq n).state = .sealed ∧ t = s.setSeq n { s.seq n with uses := (s.seq n).uses + 1 } := by
  unfold useRaise at h
  split at h
  next hs => exact ⟨hs, (Option.some.inj h).symm⟩
  · cases h

/-! ## Loads -/

/-- A load ending changes at most the slot it names. -/
theorem loadEnding_frame (n : SlotId) (e : LoadEnding) (s : State) :
    { loadEnding n e s with slots := s.slots } = s
      ∧ ∀ m, m ≠ n → (loadEnding n e s).slot m = s.slot m := by
  unfold loadEnding
  split
  · exact ⟨rfl, fun m hm => by simp [hm]⟩
  · exact ⟨rfl, fun _ _ => rfl⟩

/-- A load claim that succeeds changes nothing but slots. -/
theorem loadClaim_frame {p : PortId} {l : List SlotId} {s t : State} (h : loadClaim p l s = .ok t) :
    { t with slots := s.slots } = s := by
  unfold loadClaim at h
  split at h
  · cases h
  · cases h
    clear * -
    induction l generalizing s with
    | nil => rfl
    | cons a l ih => exact congrArg (fun u : State => { u with slots := s.slots }) (ih (s := claimOne s a))

/-! ## The fields these leave alone -/

@[simp] theorem pinRelease_resetLow (l : List SlotId) (s : State) : (pinRelease l s).resetLow = s.resetLow :=
  (congrArg State.resetLow (pinRelease_frame l s) :)
@[simp] theorem pinRelease_ports (l : List SlotId) (s : State) : (pinRelease l s).ports = s.ports :=
  (congrArg State.ports (pinRelease_frame l s) :)
@[simp] theorem pinRelease_announcements (l : List SlotId) (s : State) : (pinRelease l s).announcements = s.announcements :=
  (congrArg State.announcements (pinRelease_frame l s) :)
@[simp] theorem pinRelease_planeMem (l : List SlotId) (s : State) : (pinRelease l s).planeMem = s.planeMem :=
  (congrArg State.planeMem (pinRelease_frame l s) :)
@[simp] theorem pinRelease_lib (l : List SlotId) (s : State) : (pinRelease l s).lib = s.lib :=
  (congrArg State.lib (pinRelease_frame l s) :)
@[simp] theorem pinRelease_seqs (l : List SlotId) (s : State) : (pinRelease l s).seqs = s.seqs :=
  (congrArg State.seqs (pinRelease_frame l s) :)
@[simp] theorem pinRelease_poolFree (l : List SlotId) (s : State) : (pinRelease l s).poolFree = s.poolFree :=
  (congrArg State.poolFree (pinRelease_frame l s) :)
@[simp] theorem pinRelease_queue (l : List SlotId) (s : State) : (pinRelease l s).queue = s.queue :=
  (congrArg State.queue (pinRelease_frame l s) :)
@[simp] theorem pinRelease_selects (l : List SlotId) (s : State) : (pinRelease l s).selects = s.selects :=
  (congrArg State.selects (pinRelease_frame l s) :)
@[simp] theorem pinRelease_player (l : List SlotId) (s : State) : (pinRelease l s).player = s.player :=
  (congrArg State.player (pinRelease_frame l s) :)
@[simp] theorem pinRelease_trig (l : List SlotId) (s : State) : (pinRelease l s).trig = s.trig :=
  (congrArg State.trig (pinRelease_frame l s) :)
@[simp] theorem pinRelease_link (l : List SlotId) (s : State) : (pinRelease l s).link = s.link :=
  (congrArg State.link (pinRelease_frame l s) :)
@[simp] theorem pinRelease_lights (l : List SlotId) (s : State) : (pinRelease l s).lights = s.lights :=
  (congrArg State.lights (pinRelease_frame l s) :)
@[simp] theorem pinRelease_fromLink (l : List SlotId) (s : State) : (pinRelease l s).fromLink = s.fromLink :=
  (congrArg State.fromLink (pinRelease_frame l s) :)
@[simp] theorem pinRelease_fromTrig (l : List SlotId) (s : State) : (pinRelease l s).fromTrig = s.fromTrig :=
  (congrArg State.fromTrig (pinRelease_frame l s) :)
@[simp] theorem pinRelease_fromLights (l : List SlotId) (s : State) : (pinRelease l s).fromLights = s.fromLights :=
  (congrArg State.fromLights (pinRelease_frame l s) :)
@[simp] theorem pinRelease_pending (l : List SlotId) (s : State) : (pinRelease l s).pending = s.pending :=
  (congrArg State.pending (pinRelease_frame l s) :)

@[simp] theorem emptySequence_resetLow (n : SeqId) (s : State) : (emptySequence n s).resetLow = s.resetLow :=
  (congrArg State.resetLow (emptySequence_frame n s) :)
@[simp] theorem emptySequence_ports (n : SeqId) (s : State) : (emptySequence n s).ports = s.ports :=
  (congrArg State.ports (emptySequence_frame n s) :)
@[simp] theorem emptySequence_announcements (n : SeqId) (s : State) : (emptySequence n s).announcements = s.announcements :=
  (congrArg State.announcements (emptySequence_frame n s) :)
@[simp] theorem emptySequence_planeMem (n : SeqId) (s : State) : (emptySequence n s).planeMem = s.planeMem :=
  (congrArg State.planeMem (emptySequence_frame n s) :)
@[simp] theorem emptySequence_lib (n : SeqId) (s : State) : (emptySequence n s).lib = s.lib :=
  (congrArg State.lib (emptySequence_frame n s) :)
@[simp] theorem emptySequence_queue (n : SeqId) (s : State) : (emptySequence n s).queue = s.queue :=
  (congrArg State.queue (emptySequence_frame n s) :)
@[simp] theorem emptySequence_selects (n : SeqId) (s : State) : (emptySequence n s).selects = s.selects :=
  (congrArg State.selects (emptySequence_frame n s) :)
@[simp] theorem emptySequence_player (n : SeqId) (s : State) : (emptySequence n s).player = s.player :=
  (congrArg State.player (emptySequence_frame n s) :)
@[simp] theorem emptySequence_trig (n : SeqId) (s : State) : (emptySequence n s).trig = s.trig :=
  (congrArg State.trig (emptySequence_frame n s) :)
@[simp] theorem emptySequence_link (n : SeqId) (s : State) : (emptySequence n s).link = s.link :=
  (congrArg State.link (emptySequence_frame n s) :)
@[simp] theorem emptySequence_lights (n : SeqId) (s : State) : (emptySequence n s).lights = s.lights :=
  (congrArg State.lights (emptySequence_frame n s) :)
@[simp] theorem emptySequence_fromLink (n : SeqId) (s : State) : (emptySequence n s).fromLink = s.fromLink :=
  (congrArg State.fromLink (emptySequence_frame n s) :)
@[simp] theorem emptySequence_fromTrig (n : SeqId) (s : State) : (emptySequence n s).fromTrig = s.fromTrig :=
  (congrArg State.fromTrig (emptySequence_frame n s) :)
@[simp] theorem emptySequence_fromLights (n : SeqId) (s : State) : (emptySequence n s).fromLights = s.fromLights :=
  (congrArg State.fromLights (emptySequence_frame n s) :)
@[simp] theorem emptySequence_pending (n : SeqId) (s : State) : (emptySequence n s).pending = s.pending :=
  (congrArg State.pending (emptySequence_frame n s) :)

@[simp] theorem useRelease_resetLow (n : SeqId) (s : State) : (useRelease n s).resetLow = s.resetLow :=
  (congrArg State.resetLow (useRelease_frame n s) :)
@[simp] theorem useRelease_ports (n : SeqId) (s : State) : (useRelease n s).ports = s.ports :=
  (congrArg State.ports (useRelease_frame n s) :)
@[simp] theorem useRelease_announcements (n : SeqId) (s : State) : (useRelease n s).announcements = s.announcements :=
  (congrArg State.announcements (useRelease_frame n s) :)
@[simp] theorem useRelease_planeMem (n : SeqId) (s : State) : (useRelease n s).planeMem = s.planeMem :=
  (congrArg State.planeMem (useRelease_frame n s) :)
@[simp] theorem useRelease_lib (n : SeqId) (s : State) : (useRelease n s).lib = s.lib :=
  (congrArg State.lib (useRelease_frame n s) :)
@[simp] theorem useRelease_queue (n : SeqId) (s : State) : (useRelease n s).queue = s.queue :=
  (congrArg State.queue (useRelease_frame n s) :)
@[simp] theorem useRelease_selects (n : SeqId) (s : State) : (useRelease n s).selects = s.selects :=
  (congrArg State.selects (useRelease_frame n s) :)
@[simp] theorem useRelease_player (n : SeqId) (s : State) : (useRelease n s).player = s.player :=
  (congrArg State.player (useRelease_frame n s) :)
@[simp] theorem useRelease_trig (n : SeqId) (s : State) : (useRelease n s).trig = s.trig :=
  (congrArg State.trig (useRelease_frame n s) :)
@[simp] theorem useRelease_link (n : SeqId) (s : State) : (useRelease n s).link = s.link :=
  (congrArg State.link (useRelease_frame n s) :)
@[simp] theorem useRelease_lights (n : SeqId) (s : State) : (useRelease n s).lights = s.lights :=
  (congrArg State.lights (useRelease_frame n s) :)
@[simp] theorem useRelease_fromLink (n : SeqId) (s : State) : (useRelease n s).fromLink = s.fromLink :=
  (congrArg State.fromLink (useRelease_frame n s) :)
@[simp] theorem useRelease_fromTrig (n : SeqId) (s : State) : (useRelease n s).fromTrig = s.fromTrig :=
  (congrArg State.fromTrig (useRelease_frame n s) :)
@[simp] theorem useRelease_fromLights (n : SeqId) (s : State) : (useRelease n s).fromLights = s.fromLights :=
  (congrArg State.fromLights (useRelease_frame n s) :)
@[simp] theorem useRelease_pending (n : SeqId) (s : State) : (useRelease n s).pending = s.pending :=
  (congrArg State.pending (useRelease_frame n s) :)

@[simp] theorem loadEnding_resetLow (n : SlotId) (e : LoadEnding) (s : State) : (loadEnding n e s).resetLow = s.resetLow :=
  (congrArg State.resetLow ((loadEnding_frame n e s).1) :)
@[simp] theorem loadEnding_ports (n : SlotId) (e : LoadEnding) (s : State) : (loadEnding n e s).ports = s.ports :=
  (congrArg State.ports ((loadEnding_frame n e s).1) :)
@[simp] theorem loadEnding_announcements (n : SlotId) (e : LoadEnding) (s : State) : (loadEnding n e s).announcements = s.announcements :=
  (congrArg State.announcements ((loadEnding_frame n e s).1) :)
@[simp] theorem loadEnding_planeMem (n : SlotId) (e : LoadEnding) (s : State) : (loadEnding n e s).planeMem = s.planeMem :=
  (congrArg State.planeMem ((loadEnding_frame n e s).1) :)
@[simp] theorem loadEnding_lib (n : SlotId) (e : LoadEnding) (s : State) : (loadEnding n e s).lib = s.lib :=
  (congrArg State.lib ((loadEnding_frame n e s).1) :)
@[simp] theorem loadEnding_seqs (n : SlotId) (e : LoadEnding) (s : State) : (loadEnding n e s).seqs = s.seqs :=
  (congrArg State.seqs ((loadEnding_frame n e s).1) :)
@[simp] theorem loadEnding_poolFree (n : SlotId) (e : LoadEnding) (s : State) : (loadEnding n e s).poolFree = s.poolFree :=
  (congrArg State.poolFree ((loadEnding_frame n e s).1) :)
@[simp] theorem loadEnding_queue (n : SlotId) (e : LoadEnding) (s : State) : (loadEnding n e s).queue = s.queue :=
  (congrArg State.queue ((loadEnding_frame n e s).1) :)
@[simp] theorem loadEnding_selects (n : SlotId) (e : LoadEnding) (s : State) : (loadEnding n e s).selects = s.selects :=
  (congrArg State.selects ((loadEnding_frame n e s).1) :)
@[simp] theorem loadEnding_player (n : SlotId) (e : LoadEnding) (s : State) : (loadEnding n e s).player = s.player :=
  (congrArg State.player ((loadEnding_frame n e s).1) :)
@[simp] theorem loadEnding_trig (n : SlotId) (e : LoadEnding) (s : State) : (loadEnding n e s).trig = s.trig :=
  (congrArg State.trig ((loadEnding_frame n e s).1) :)
@[simp] theorem loadEnding_link (n : SlotId) (e : LoadEnding) (s : State) : (loadEnding n e s).link = s.link :=
  (congrArg State.link ((loadEnding_frame n e s).1) :)
@[simp] theorem loadEnding_lights (n : SlotId) (e : LoadEnding) (s : State) : (loadEnding n e s).lights = s.lights :=
  (congrArg State.lights ((loadEnding_frame n e s).1) :)
@[simp] theorem loadEnding_fromLink (n : SlotId) (e : LoadEnding) (s : State) : (loadEnding n e s).fromLink = s.fromLink :=
  (congrArg State.fromLink ((loadEnding_frame n e s).1) :)
@[simp] theorem loadEnding_fromTrig (n : SlotId) (e : LoadEnding) (s : State) : (loadEnding n e s).fromTrig = s.fromTrig :=
  (congrArg State.fromTrig ((loadEnding_frame n e s).1) :)
@[simp] theorem loadEnding_fromLights (n : SlotId) (e : LoadEnding) (s : State) : (loadEnding n e s).fromLights = s.fromLights :=
  (congrArg State.fromLights ((loadEnding_frame n e s).1) :)
@[simp] theorem loadEnding_pending (n : SlotId) (e : LoadEnding) (s : State) : (loadEnding n e s).pending = s.pending :=
  (congrArg State.pending ((loadEnding_frame n e s).1) :)

end Sys2Proof.Machine
end

