-- ==== Sys2Proof/Laws/Link.lean ====
section
/-! SUPPORT. What the requests to the plane link, to the light channels and to the trigger unit leave alone, and what a load
request to an IDLE link sends. -/

namespace Sys2Proof.Machine

/-! ## Requests to the link -/

/-- Becoming IDLE changes the link alone. -/
theorem becomeIdle_others (s : State) : { becomeIdle s with link := s.link } = s := by
  unfold becomeIdle
  dsimp only
  repeat' split
  all_goals rfl

/-- A discard changes the link alone. -/
theorem discard_others (k : Nat) (s : State) : { discard k s with link := s.link } = s := by
  unfold discard
  repeat' split
  all_goals rfl

/-- A load request changes the link, or hands the player a fault. -/
theorem loadRequest_others (h : HolderRef) (i : Nat) (n : SlotId) (v : Bool) (s : State) :
    { loadRequest h i n v s with link := s.link, fromLink := s.fromLink } = s := by
  unfold loadRequest becomeIdle
  dsimp only
  repeat' split
  all_goals rfl

/-- A load request to an IDLE link with no blank pending sends its LOAD at once. -/
theorem loadRequest_idle (h : HolderRef) (i : Nat) (n : SlotId) (v : Bool) (s : State)
    (hs : s.link.state = .idle) (hb : s.link.pendingBlank = false) :
    (loadRequest h i n v s).fromLink = s.fromLink
      ∧ (loadRequest h i n v s).link.state = .transmitting
      ∧ (loadRequest h i n v s).link.sent = some (.load n)
      ∧ (loadRequest h i n v s).link.identity = some { holder := h, idx := i, slot := n, verify := v, stage := .sending } := by
  have drop (j : Identity) : (s.link.dropIdentity j).state = .idle ∧ (s.link.dropIdentity j).pendingBlank = false := by
    unfold Link.dropIdentity
    split <;> exact ⟨hs, hb⟩
  unfold loadRequest becomeIdle
  simp only [hs, LinkState.refusal]
  split
  · split
    · simp [hs, hb, Link.sendLoad]
    · simp [drop, Link.sendLoad]
  · simp [hs, hb, Link.sendLoad]

/-- The load of a step changes the link, or hands the player a fault. -/
theorem requestStep_others (k : Nat) (c : Context) (i : Nat) (s : State) :
    { requestStep k c i s with link := s.link, fromLink := s.fromLink } = s := by
  unfold requestStep
  split
  · exact loadRequest_others ..
  · rfl

/-- The load of a step asked of an IDLE link with no blank pending is sent at once. -/
theorem requestStep_idle (k : Nat) (c : Context) (i : Nat) (x : Step) (s : State) (hx : stepOf s c i = some x)
    (hs : s.link.state = .idle) (hb : s.link.pendingBlank = false) :
    (requestStep k c i s).fromLink = s.fromLink
      ∧ (requestStep k c i s).link.state = .transmitting
      ∧ (requestStep k c i s).link.sent = some (.load x.slot)
      ∧ (requestStep k c i s).link.identity = some
          { holder := { who := c.holder, number := k }, idx := i, slot := x.slot, verify := x.verify
            stage := .sending } := by
  unfold requestStep
  rw [hx]
  exact loadRequest_idle _ _ _ _ _ hs hb

/-- A swap request changes the link, or hands the player a fault. -/
theorem swapRequest_others (h : HolderRef) (i : Nat) (n : SlotId) (s : State) :
    { swapRequest h i n s with link := s.link, fromLink := s.fromLink } = s := by
  unfold swapRequest
  repeat' split
  all_goals rfl

/-- A blank request changes the link alone. -/
theorem blankRequest_others (s : State) : { blankRequest s with link := s.link } = s := by
  unfold blankRequest
  split <;> rfl

/-! ## Light requests -/

/-- After a light request exactly the channels of the mask are on; limits and trip flags stay. -/
theorem light_lightRequest (h : HolderRef) (m : Mask) (s : State) (c : ChannelId) :
    ((lightRequest h m s).light c).on = m.getLsbD c.val
      ∧ ((lightRequest h m s).light c).limit = (s.light c).limit
      ∧ ((lightRequest h m s).light c).trip = (s.light c).trip := by
  have : (lightRequest h m s).light c = (s.light c).request (m.getLsbD c.val) h := by
    match c with | 0 | 1 | 2 | 3 => rfl
  rw [this]
  unfold Light.request Light.off
  cases hm : m.getLsbD c.val <;> cases ho : (s.light c).on <;> simp [ho]

/-- After the empty light request no channel is on; limits and trip flags stay. -/
theorem light_lightsOff (s : State) (c : ChannelId) :
    ((lightsOff s).light c).on = false ∧ ((lightsOff s).light c).limit = (s.light c).limit
      ∧ ((lightsOff s).light c).trip = (s.light c).trip := by
  have : (lightsOff s).light c = if (s.light c).on = true then (s.light c).off else s.light c := by
    match c with | 0 | 1 | 2 | 3 => rfl
  rw [this]
  cases ho : (s.light c).on <;> simp [ho, Light.off]

/-- A light request changes the channels alone. -/
theorem lightRequest_others (h : HolderRef) (m : Mask) (s : State) : { lightRequest h m s with lights := s.lights } = s := rfl

/-- The empty light request changes the channels alone. -/
theorem lightsOff_others (s : State) : { lightsOff s with lights := s.lights } = s := rfl

/-- The end of a running context at the blocks that play it: the timers, the wait, its plane at the link, the channels. -/
theorem silence_others (k : Nat) (s : State) :
    { silence k s with link := s.link, lights := s.lights } =
      { s with
        trig := { s.trig with wait := none }
        player := { s.player with holdTimer := none, gapTimer := none } } := by
  have := discard_others k (cancelWait (stopTimers s))
  exact congrArg (fun t : State => { t with link := s.link, lights := s.lights }) this

end Sys2Proof.Machine
end

