-- ==== Sys2Proof/Laws/Memory.lean ====
section
/-! SUPPORT. The plane memory: a read after a write gives the byte written, a write leaves every other address alone, and
every write keeps the canonical form. -/

namespace Sys2Proof.Machine

/-! ## The cells of a run of bytes -/

/-- Every cell of a run lies in the run and differs from the unlisted byte. -/
theorem mem_cellsFrom {bytes : List Byte} : ∀ {a : Nat} {c : Host.Cell}, c ∈ cellsFrom a bytes →
    a ≤ c.1 ∧ c.1 < a + bytes.length ∧ c.2 ≠ unlistedByte := by
  induction bytes with
  | nil => intro a c h; simp [cellsFrom] at h
  | cons b bs ih =>
    intro a c h
    unfold cellsFrom at h
    split at h
    · have := ih h
      simp only [List.length_cons]
      exact ⟨by omega, by omega, this.2.2⟩
    · next hb =>
      rcases List.mem_cons.mp h with rfl | h
      · exact ⟨Nat.le_refl _, by simp, hb⟩
      · have := ih h
        simp only [List.length_cons]
        exact ⟨by omega, by omega, this.2.2⟩

/-- The cells of a run stand in rising order. -/
theorem cellsFrom_sorted (bytes : List Byte) : ∀ a : Nat,
    (cellsFrom a bytes).Pairwise (fun x y => x.1 < y.1) := by
  induction bytes with
  | nil => intro a; exact List.Pairwise.nil
  | cons b bs ih =>
    intro a
    unfold cellsFrom
    split
    · exact ih (a + 1)
    · refine List.pairwise_cons.mpr ⟨fun c hc => ?_, ih (a + 1)⟩
      have := mem_cellsFrom hc
      show a < c.1
      omega

theorem lookup_eq_none_of_forall {m : Memory} {x : Nat} (h : ∀ c ∈ m, c.1 ≠ x) : m.lookup x = none := by
  rw [List.lookup_eq_none_iff]
  intro c hc
  simpa using Ne.symm (h c hc)

/-- Looking up an address among the cells of a run gives the byte, unless it is the unlisted byte. -/
theorem lookup_cellsFrom {bytes : List Byte} : ∀ {a i : Nat} (h : i < bytes.length),
    ((cellsFrom a bytes).lookup (a + i)).getD unlistedByte = bytes[i] := by
  induction bytes with
  | nil => intro a i h; simp at h
  | cons b bs ih =>
    intro a i h
    unfold cellsFrom
    cases i with
    | zero =>
      split
      · next hb =>
        rw [lookup_eq_none_of_forall fun c hc => by have := mem_cellsFrom hc; omega]
        simp [hb]
      · simp
    | succ i =>
      have hi : i < bs.length := by simpa using h
      have hsum : a + (i + 1) = a + 1 + i := by omega
      have hne : (a + (i + 1) == a) = false := by
        rw [beq_eq_false_iff_ne]
        omega
      split
      · simp only [hsum]
        simpa using ih hi
      · rw [List.lookup_cons, hne]
        simp only [hsum]
        simpa using ih hi

theorem lookup_filter {m : Memory} {x : Nat} {p : Host.Cell → Bool} (h : ∀ c : Host.Cell, c.1 = x → p c = true) :
    (m.filter p).lookup x = m.lookup x := by
  induction m with
  | nil => rfl
  | cons c m ih =>
    rcases c with ⟨k, v⟩
    by_cases hk : x = k
    · subst hk
      simp [h (x, v) rfl]
    · have hb : (x == k) = false := beq_eq_false_iff_ne.mpr hk
      by_cases hp : p (k, v) = true
      · simp [hp, List.lookup_cons, hb, ih]
      · simp [hp, List.lookup_cons, hb, ih]

/-! ## Read after write -/

/-- A byte of the run written reads as written. -/
theorem memRead_memWrite (a : Nat) (bytes : List Byte) (m : Memory) (i : Nat) (h : i < bytes.length) :
    memRead (memWrite a bytes m) (a + i) = bytes[i] := by
  unfold memRead memWrite
  have h1 : (m.filter (fun c => c.1 < a)).lookup (a + i) = none :=
    lookup_eq_none_of_forall fun c hc => by
      have := (List.mem_filter.mp hc).2
      simp only [decide_eq_true_eq] at this
      omega
  have h3 : (m.filter (fun c => a + bytes.length ≤ c.1)).lookup (a + i) = none :=
    lookup_eq_none_of_forall fun c hc => by
      have := (List.mem_filter.mp hc).2
      simp only [decide_eq_true_eq] at this
      omega
  rw [List.append_assoc, List.lookup_append, h1, List.lookup_append, h3]
  simpa using lookup_cellsFrom h

/-- A byte outside the run written reads as before. -/
theorem memRead_memWrite_of_outside (a : Nat) (bytes : List Byte) (m : Memory) (x : Nat)
    (h : x < a ∨ a + bytes.length ≤ x) : memRead (memWrite a bytes m) x = memRead m x := by
  unfold memRead memWrite
  have h2 : (cellsFrom a bytes).lookup x = none :=
    lookup_eq_none_of_forall fun c hc => by have := mem_cellsFrom hc; omega
  rw [List.append_assoc, List.lookup_append, List.lookup_append, h2]
  rcases h with h | h
  · have h1 : (m.filter (fun c => c.1 < a)).lookup x = m.lookup x := lookup_filter fun c hc => by
      simp only [decide_eq_true_eq]
      omega
    have h3 : (m.filter (fun c => a + bytes.length ≤ c.1)).lookup x = none :=
      lookup_eq_none_of_forall fun c hc => by
        have := (List.mem_filter.mp hc).2
        simp only [decide_eq_true_eq] at this
        omega
    simp [h1, h3]
  · have h1 : (m.filter (fun c => c.1 < a)).lookup x = none :=
      lookup_eq_none_of_forall fun c hc => by
        have := (List.mem_filter.mp hc).2
        simp only [decide_eq_true_eq] at this
        omega
    have h3 : (m.filter (fun c => a + bytes.length ≤ c.1)).lookup x = m.lookup x := lookup_filter fun c hc => by
      simp only [decide_eq_true_eq]
      omega
    simp [h1, h3]

/-! ## The canonical form -/

/-- A write keeps the canonical form. -/
theorem memWrite_wf (a : Nat) (bytes : List Byte) {m : Memory} (h : m.wf) : (memWrite a bytes m).wf := by
  have hlow : ∀ c ∈ m.filter (fun c => c.1 < a), c.1 < a := fun c hc => by
    simpa using (List.mem_filter.mp hc).2
  have hhigh : ∀ c ∈ m.filter (fun c => a + bytes.length ≤ c.1), a + bytes.length ≤ c.1 := fun c hc => by
    simpa using (List.mem_filter.mp hc).2
  refine ⟨?_, fun c hc => ?_⟩
  · refine List.pairwise_append.mpr ⟨List.pairwise_append.mpr ⟨h.1.filter _, cellsFrom_sorted bytes a, ?_⟩,
      h.1.filter _, ?_⟩
    · intro c hc d hd
      have := hlow c hc
      have := mem_cellsFrom hd
      show c.1 < d.1
      omega
    · intro c hc d hd
      have := hhigh d hd
      rcases List.mem_append.mp hc with hc | hc
      · have := hlow c hc
        show c.1 < d.1
        omega
      · have := mem_cellsFrom hc
        show c.1 < d.1
        omega
  · rcases List.mem_append.mp hc with hc | hc
    · rcases List.mem_append.mp hc with hc | hc
      · exact h.2 c (List.mem_filter.mp hc).1
      · exact (mem_cellsFrom hc).2.2
    · exact h.2 c (List.mem_filter.mp hc).1

/-- The memory of the state after reset is in its canonical form. -/
theorem reset_planeMem_wf : Memory.wf State.reset.planeMem := by decide

end Sys2Proof.Machine
end

