-- ==== Sys2Proof/Laws/Notices.lean ====
section
/-! SUPPORT. The blocks reach the ports only through replies and notices: every shared operation of the player, the queue,
the loader, the link and the lights changes the ports by notices alone. -/

namespace Sys2Proof.Machine

/-- From s to t the ports have only been handed notices. -/
def NoticesOnly (s t : State) : Prop :=
  ∀ p, ∃ ns : List Notice, t.port p = { s.port p with inbox := (s.port p).inbox ++ ns.map .notice }

theorem NoticesOnly.of_ports {s t : State} (h : t.ports = s.ports) : NoticesOnly s t := fun p =>
  ⟨[], by simp [State.port, h]⟩

theorem NoticesOnly.refl (s : State) : NoticesOnly s s := .of_ports rfl

theorem NoticesOnly.trans {s t u : State} (h : NoticesOnly s t) (k : NoticesOnly t u) : NoticesOnly s u := fun p => by
  obtain ⟨ns, hn⟩ := h p
  obtain ⟨ms, hm⟩ := k p
  exact ⟨ns ++ ms, by simp [hm, hn]⟩

/-- A change of the ports by notices, followed by one that leaves the ports alone. -/
theorem NoticesOnly.then_ports {s t u : State} (h : NoticesOnly s t) (k : u.ports = t.ports) : NoticesOnly s u :=
  h.trans (.of_ports k)

/-- A change of the ports by notices, after one that leaves the ports alone. -/
theorem NoticesOnly.after {s t u : State} (h : NoticesOnly t u) (k : t.ports = s.ports) : NoticesOnly s u :=
  (NoticesOnly.of_ports k).trans h

theorem NoticesOnly.notify (s : State) (p : PortId) (n : Notice) : NoticesOnly s (s.notify p n) := fun q => by
  by_cases h : q = p
  · subst h; exact ⟨[n], by simp⟩
  · exact ⟨[], by simp [h]⟩

theorem NoticesOnly.notifyControl (s : State) (n : Notice) : NoticesOnly s (s.notifyControl n) := fun q => by
  by_cases h : (s.port q).cls = .control
  · exact ⟨[n], by simp [h]⟩
  · exact ⟨[], by simp [h]⟩

theorem NoticesOnly.notifySubmitter (s : State) (p : Option PortId) (n : Notice) :
    NoticesOnly s (s.notifySubmitter p n) := by
  cases p with
  | none => exact .refl s
  | some p => exact .notify s p n

theorem NoticesOnly.foldl {α : Type} {f : State → α → State} (hf : ∀ s a, NoticesOnly s (f s a)) (l : List α) :
    ∀ s, NoticesOnly s (l.foldl f s) := by
  induction l with
  | nil => exact fun s => .refl s
  | cons a l ih => exact fun s => (hf s a).trans (ih (f s a))

/-- Handing notices adds no reply. -/
theorem NoticesOnly.repliesTo {s t : State} (h : NoticesOnly s t) (p : PortId) : t.repliesTo p = s.repliesTo p := by
  obtain ⟨ns, hn⟩ := h p
  have : (ns.map Handed.notice).filterMap Handed.reply? = [] := by
    simp [List.filterMap_eq_nil_iff, Handed.reply?]
  simp [State.repliesTo, hn, this]

theorem repliesTo_reply (s : State) (p : PortId) (a : Answer) :
    (s.reply p a).repliesTo p = s.repliesTo p ++ [(a.status, a.body)] := by
  simp [State.repliesTo, Handed.reply?]

/-! ## Operations that leave the ports alone -/

@[simp] theorem becomeIdle_ports (s : State) : (becomeIdle s).ports = s.ports := by
  unfold becomeIdle
  dsimp only
  repeat' split
  all_goals rfl

@[simp] theorem toPlayer_ports (e : LinkEvent) (s : State) : (toPlayer e s).ports = s.ports := rfl

@[simp] theorem discard_ports (k : Nat) (s : State) : (discard k s).ports = s.ports := by
  unfold discard
  repeat' split
  all_goals rfl

@[simp] theorem loadRequest_ports (h : HolderRef) (i : Nat) (n : SlotId) (v : Bool) (s : State) :
    (loadRequest h i n v s).ports = s.ports := by
  unfold loadRequest
  dsimp only
  repeat' split
  all_goals first | rfl | simp

@[simp] theorem swapRequest_ports (h : HolderRef) (i : Nat) (n : SlotId) (s : State) :
    (swapRequest h i n s).ports = s.ports := by
  unfold swapRequest
  repeat' split
  all_goals rfl

@[simp] theorem blankRequest_ports (s : State) : (blankRequest s).ports = s.ports := by
  unfold blankRequest
  split <;> rfl

@[simp] theorem lightsOff_ports (s : State) : (lightsOff s).ports = s.ports := rfl
@[simp] theorem resetLights_ports (s : State) : (resetLights s).ports = s.ports := rfl
@[simp] theorem lightRequest_ports (h : HolderRef) (m : Mask) (s : State) : (lightRequest h m s).ports = s.ports := rfl
@[simp] theorem clearLatches_ports (s : State) : (clearLatches s).ports = s.ports := rfl
@[simp] theorem consumeLatch_ports (x : Source) (s : State) : (consumeLatch x s).ports = s.ports := rfl
@[simp] theorem makeWait_ports (x : Source) (h : HolderRef) (s : State) : (makeWait x h s).ports = s.ports := rfl
@[simp] theorem cancelWait_ports (s : State) : (cancelWait s).ports = s.ports := rfl
@[simp] theorem syncPulse_ports (s : State) : (syncPulse s).ports = s.ports := rfl
@[simp] theorem occupy_ports (mk : Nat → Output) (s : State) : (occupy mk s).ports = s.ports := rfl
@[simp] theorem stopTimers_ports (s : State) : (stopTimers s).ports = s.ports := rfl
@[simp] theorem spendNumber_ports (s : State) : (spendNumber s).ports = s.ports := rfl
@[simp] theorem withdraw_ports (p : PortId) (s : State) : (withdraw p s).ports = s.ports := rfl

@[simp] theorem silence_ports (k : Nat) (s : State) : (silence k s).ports = s.ports := by simp [silence]

@[simp] theorem requestStep_ports (k : Nat) (c : Context) (i : Nat) (s : State) :
    (requestStep k c i s).ports = s.ports := by
  unfold requestStep
  split <;> simp

@[simp] theorem beginSwap_ports (k : Nat) (c : Context) (x : Step) (s : State) :
    (beginSwap k c x s).ports = s.ports := by
  simp [beginSwap]

@[simp] theorem endDirect_ports (s : State) : (endDirect s).ports = s.ports := by
  unfold endDirect
  dsimp only
  split
  · simp
  · split <;> simp
  · rfl

@[simp] theorem startBurst_ports (a b : Nat) (s : State) : (startBurst a b s).ports = s.ports := rfl
@[simp] theorem startScan_ports (s : State) : (startScan s).ports = s.ports := rfl

@[simp] theorem loadWrite_ports (n : SlotId) (l : List Byte) (s : State) : (loadWrite n l s).ports = s.ports := by
  unfold loadWrite
  split <;> rfl

@[simp] theorem forceOff_ports (c : ChannelId) (s : State) : (forceOff c s).ports = s.ports := by
  unfold forceOff
  dsimp only
  split <;> rfl

@[simp] theorem forceIfPast_ports (s : State) (c : ChannelId) : (forceIfPast s c).ports = s.ports := by
  unfold forceIfPast
  split <;> simp

@[simp] theorem releaseEntry_ports (s : State) (e : Entry) : (releaseEntry s e).ports = s.ports := by
  unfold releaseEntry
  split <;> simp

@[simp] theorem releaseDesignated_ports (d : Option SeqId) (s : State) : (releaseDesignated d s).ports = s.ports := by
  cases d <;> simp [releaseDesignated]

@[simp] theorem mismatchReport_ports (n : SlotId) (s : State) : (mismatchReport n s).ports = s.ports := by
  unfold mismatchReport
  split <;> rfl

@[simp] theorem swapHead_ports (s : State) : (swapHead s).ports = s.ports := by
  unfold swapHead
  repeat' split
  all_goals simp

@[simp] theorem loadShow_ports (k : Nat) (d : Direct) (x : Show) (s : State) : (loadShow k d x s).ports = s.ports := by
  simp [loadShow]

@[simp] theorem joinShow_ports (k : Nat) (d : Direct) (x : Show) (s : State) : (joinShow k d x s).ports = s.ports := by
  unfold joinShow
  dsimp only
  split <;> simp

/-! ## Operations that hand notices -/

theorem NoticesOnly.linkChanged (old : LinkState) (s : State) : NoticesOnly s (linkChanged old s) := .notifyControl _ _

theorem NoticesOnly.linkComesUp (s : State) : NoticesOnly s (linkComesUp s) :=
  .then_ports (.after (.linkChanged s.link.state { s with link := s.link.sendBlank }) rfl) rfl

theorem NoticesOnly.restartLink (s : State) : NoticesOnly s (restartLink s) := by
  unfold Machine.restartLink
  split
  · exact .linkComesUp s
  · exact .refl s

theorem NoticesOnly.triggerArrival (x : Source) (s : State) : NoticesOnly s (triggerArrival x s) := by
  unfold Machine.triggerArrival
  dsimp only
  repeat' split
  all_goals first
    | exact .of_ports rfl
    | exact .after (.notifyControl _ _) rfl

theorem NoticesOnly.startContext (l : Nat) (p : PortId) (tag : Word16) (n : SeqId) (o : Nat) (s : State) :
    NoticesOnly s (startContext l p tag n o s) := by
  unfold Machine.startContext
  dsimp only
  refine .then_ports ?_ (requestStep_ports _ _ _ _)
  exact .after (.notify _ _ _) rfl

theorem NoticesOnly.resumeContext (c : Context) (s : State) : NoticesOnly s (resumeContext c s) := by
  unfold Machine.resumeContext
  dsimp only
  refine .then_ports ?_ (requestStep_ports _ _ _ _)
  exact .after (.notifySubmitter _ _ _) rfl

theorem useRaise_getD_ports (n : SeqId) (s : State) : ((useRaise n s).getD s).ports = s.ports := by
  unfold useRaise
  split <;> rfl

theorem NoticesOnly.startFallback (n : SeqId) (k : FaultKind) (s : State) : NoticesOnly s (startFallback n k s) := by
  unfold Machine.startFallback
  dsimp only
  refine .then_ports ?_ (requestStep_ports _ _ _ _)
  refine .trans ?_ (.notifyControl _ _)
  exact .of_ports (useRaise_getD_ports n s)

theorem NoticesOnly.offerDirect (p : PortId) (l : Nat) (s : State) : NoticesOnly s (offerDirect p l s) :=
  .after (.notify _ _ _) rfl

theorem NoticesOnly.pushContext (k : Nat) (c : Context) (cut : Bool) (l : Nat) (s : State) :
    NoticesOnly s (pushContext k c cut l s) := by
  unfold Machine.pushContext
  dsimp only
  refine .trans ?_ (.notifySubmitter _ _ _)
  exact .of_ports (silence_ports k s)

theorem NoticesOnly.notifyDirectEnded (o : Output) (r : EndReason) (l : Option Nat) (s : State) :
    NoticesOnly s (notifyDirectEnded o r l s) := by
  unfold Machine.notifyDirectEnded
  split
  · exact .notify _ _ _
  · exact .refl s

theorem NoticesOnly.endDirectWith (r : EndReason) (l : Option Nat) (s : State) : NoticesOnly s (endDirectWith r l s) := by
  unfold Machine.endDirectWith
  exact .after (.notifyDirectEnded _ _ _ _) (endDirect_ports s)

theorem NoticesOnly.resumeTop (s : State) : NoticesOnly s (resumeTop s) := by
  unfold Machine.resumeTop
  split
  · exact .after (.resumeContext _ _) rfl
  · exact .refl s

theorem NoticesOnly.selectIdle (n : Nat) : ∀ s, NoticesOnly s (selectIdle n s) := by
  induction n with
  | zero => exact fun s => .refl s
  | succ n ih =>
    intro s
    unfold Machine.selectIdle
    split
    · exact .resumeTop s
    · split
      · dsimp only
        split
        · exact .after (.startContext _ _ _ _ _ _) rfl
        · split
          · exact .after (.offerDirect _ _ _) rfl
          · exact .after (ih _) rfl
      · exact .resumeTop s

theorem NoticesOnly.selectHead (s : State) : NoticesOnly s (selectHead s) := .selectIdle _ s

/-- Selection hands notices and nothing else to the ports. -/
theorem NoticesOnly.select (s : State) : NoticesOnly s (select s) := by
  unfold Machine.select
  repeat' split
  all_goals first
    | exact .refl s
    | exact .selectHead s
    | exact .trans (.pushContext _ _ _ _ s) (.selectHead _)
    | exact .trans (.endDirectWith _ _ s) (.selectHead _)

theorem NoticesOnly.endJob (j : Job) (e : LoadEnding) (s : State) : NoticesOnly s (endJob j e s) := by
  unfold Machine.endJob
  dsimp only
  split
  · exact .of_ports (loadEnding_ports _ _ s)
  · exact .after (.notify _ _ _) (loadEnding_ports _ _ s)

theorem NoticesOnly.startJobs (n : Nat) : ∀ s, NoticesOnly s (startJobs n s) := by
  induction n with
  | zero => exact fun s => .refl s
  | succ n ih =>
    intro s
    unfold Machine.startJobs
    repeat' split
    all_goals first
      | exact .refl s
      | exact .of_ports rfl
      | exact .trans (.endJob _ _ s) (ih _)

theorem NoticesOnly.startHead (s : State) : NoticesOnly s (startHead s) := by
  unfold Machine.startHead
  split
  · exact .refl s
  · exact .startJobs _ s

theorem NoticesOnly.finishJob (j : Job) (e : LoadEnding) (s : State) : NoticesOnly s (finishJob j e s) := by
  unfold Machine.finishJob
  exact .trans (.endJob j e s) (.startHead _)

theorem NoticesOnly.dropJobs (gone : Job → Bool) (e : LoadEnding) (s : State) : NoticesOnly s (dropJobs gone e s) := by
  unfold Machine.dropJobs
  exact .then_ports (.foldl (fun s j => .of_ports (loadEnding_ports _ _ s)) _ s) rfl

theorem NoticesOnly.removeEntry (p : PortId) (e : Entry) (s : State) : NoticesOnly s (removeEntry p e s) := by
  unfold Machine.removeEntry
  dsimp only
  split
  · exact .of_ports (by simp)
  · exact .after (.notify _ _ _) (by simp)

theorem NoticesOnly.resetEntry (s : State) (e : Entry) : NoticesOnly s (resetEntry s e) := by
  unfold Machine.resetEntry
  exact .after (.notify _ _ _) (releaseEntry_ports s e)

theorem NoticesOnly.resetQueue (s : State) : NoticesOnly s (resetQueue s) :=
  .after (.foldl NoticesOnly.resetEntry _ _) rfl

theorem NoticesOnly.abortNotice (k : Nat) (c : Context) (r : EndReason) (s : State) :
    NoticesOnly s (abortNotice k c r s) := by
  unfold Machine.abortNotice
  dsimp only
  split
  · exact .after (.notifyControl _ _) (silence_ports k s)
  · exact .after (.notifySubmitter _ _ _) (silence_ports k s)

theorem NoticesOnly.abortRunning (k : Nat) (c : Context) (s : State) : NoticesOnly s (abortRunning k c s) :=
  .then_ports (.abortNotice k c .cancelled s) (by simp [Machine.abortRunning])

theorem NoticesOnly.abortSuspended (c : Context) (s : State) : NoticesOnly s (abortSuspended c s) := by
  unfold Machine.abortSuspended
  dsimp only
  refine .then_ports ?_ (useRelease_ports _ _)
  exact .after (.notifySubmitter _ _ _) rfl

theorem NoticesOnly.resetHolder (s : State) : NoticesOnly s (resetHolder s) := by
  unfold Machine.resetHolder
  split
  · exact .abortNotice _ _ _ s
  · exact .abortNotice _ _ _ s
  · exact .endDirectWith _ _ s

theorem NoticesOnly.endStaging (k : Nat) (c : Context) (s : State) : NoticesOnly s (endStaging k c s) := by
  unfold Machine.endStaging
  repeat' split
  · exact .refl s
  · exact .of_ports (beginSwap_ports _ _ _ _)
  · exact .after (.select _) (beginSwap_ports _ _ _ _)
  · exact .after (.select _) rfl

theorem NoticesOnly.stageNext (k : Nat) (c : Context) (s : State) : NoticesOnly s (stageNext k c s) := by
  unfold Machine.stageNext
  dsimp only
  repeat' split
  all_goals first
    | exact .endStaging _ _ s
    | exact .of_ports (by simp)

theorem NoticesOnly.retire (c : Context) (s : State) : NoticesOnly s (retire c s) := by
  unfold Machine.retire
  refine .trans ?_ (.select _)
  exact .of_ports (useRelease_ports _ _)

theorem NoticesOnly.complete (c : Context) (s : State) : NoticesOnly s (complete c s) := by
  unfold Machine.complete
  split
  · exact .trans (.notifyControl s _) (.retire _ _)
  · exact .trans (.notifySubmitter s _ _) (.retire _ _)

theorem NoticesOnly.endGap (k : Nat) (c : Context) (s : State) : NoticesOnly s (endGap k c s) := by
  unfold Machine.endGap
  split
  · exact .complete c s
  · dsimp only
    split
    · refine .trans ?_ (.stageNext _ _ _)
      exact .after (.select _) rfl
    · exact .after (.select _) rfl

theorem endLights_ports (k : Nat) (c : Context) (x : Step) (s : State) : (endLights k c x s).ports = s.ports := by
  unfold endLights
  split <;> rfl

theorem NoticesOnly.endHold (k : Nat) (c : Context) (s : State) : NoticesOnly s (endHold k c s) := by
  unfold Machine.endHold
  split
  · exact .refl s
  · dsimp only
    split
    · refine .trans ?_ (.endGap _ _ _)
      exact .of_ports (endLights_ports _ _ _ _)
    · exact .of_ports (endLights_ports _ _ _ _)

theorem showStep_ports (k : Nat) (c : Context) (s : State) : (showStep k c s).ports = s.ports := by
  unfold showStep
  split
  · rfl
  · dsimp only
    split <;> simp

theorem NoticesOnly.halt (k : Nat) (c : Context) (r : FaultRecord) (s : State) : NoticesOnly s (halt k c r s) := by
  unfold Machine.halt
  dsimp only
  refine .trans ?_ (.notifyControl _ _)
  exact .of_ports (by simp)

theorem NoticesOnly.afterFault (k : FaultKind) (s : State) : NoticesOnly s (afterFault k s) := by
  unfold Machine.afterFault
  repeat' split
  all_goals first
    | exact .startFallback _ _ s
    | exact .select s

theorem NoticesOnly.faultHolder (f : RaisedFault) (s : State) : NoticesOnly s (faultHolder f s) := by
  unfold Machine.faultHolder
  split
  · exact .refl s
  · dsimp only
    split
    · refine .trans ?_ (.afterFault _ _)
      refine .then_ports ?_ (by simp; rfl)
      refine .trans ?_ (.notifySubmitter _ _ _)
      refine .trans ?_ (.notifyControl _ _)
      exact .of_ports (by simp)
    · exact .halt _ _ _ s
    · refine .trans ?_ (.afterFault _ _)
      refine .trans ?_ (.notifyDirectEnded _ _ _ _)
      refine .trans ?_ (.notifyControl _ _)
      exact .of_ports (by simp)

theorem NoticesOnly.takeFault (f : RaisedFault) (s : State) : NoticesOnly s (takeFault f s) := by
  unfold Machine.takeFault
  split
  · exact .faultHolder f s
  · exact .refl s

theorem NoticesOnly.takeReport (up : Bool) (rf : ReportFault) (s : State) : NoticesOnly s (takeReport up rf s) := by
  unfold Machine.takeReport
  dsimp only
  repeat' split
  all_goals first
    | exact .of_ports rfl
    | exact .after (.select _) rfl
    | exact .after (.takeFault _ _) rfl
    | exact .after (.faultHolder _ _) rfl

theorem NoticesOnly.endShow (s : State) : NoticesOnly s (endShow s) := by
  unfold Machine.endShow
  dsimp only
  repeat' split
  all_goals try exact .refl s
  · refine .then_ports ?_ (swapHead_ports _)
    refine .trans ?_ (.select _)
    refine .then_ports ?_ (State.setOut_ports _ _)
    refine .then_ports ?_ (pinRelease_ports _ _)
    exact .after (.notify _ _ _) (lightsOff_ports s)
  · refine .trans ?_ (.select _)
    refine .then_ports ?_ (State.setOut_ports _ _)
    refine .then_ports ?_ (pinRelease_ports _ _)
    exact .after (.notify _ _ _) (lightsOff_ports s)

theorem NoticesOnly.selectForHead (s : State) : NoticesOnly s (selectForHead s) := by
  unfold Machine.selectForHead
  repeat' split
  all_goals first
    | exact .select s
    | exact .refl s

theorem NoticesOnly.selectIfIdle (s : State) : NoticesOnly s (selectIfIdle s) := by
  unfold Machine.selectIfIdle
  split
  · exact .select s
  · exact .refl s

end Sys2Proof.Machine
end

