-- ==== Sys2Proof/Laws/Ports.lean ====
section
/-! SUPPORT. What the rise of chip-select does, said once; and the fields of a port that the parts of a transaction leave. -/

namespace Sys2Proof.Machine

/-! ## The rise of chip-select -/

/-- The rise of a transaction does one of three things: nothing, when another transaction is in progress; it ends one that is
ignored; or it takes the transaction, of a port that listens. -/
theorem takeRise_cases (p : PortId) (d : Direction) (clocked : Nat) (act : State → State) (s : State) :
    (takeRise p d clocked act s = s ∧ ∃ t, (s.port p).txn = some t ∧ t.direction ≠ d)
    ∨ (takeRise p d clocked act s = s.setPort p ((s.port p).ignore clocked)
        ∧ ((s.port p).txn = some (.ignored d) ∨ s.portListens p = false))
    ∨ (takeRise p d clocked act s = act s ∧ s.portListens p = true
        ∧ ∀ t, (s.port p).txn = some t → t.direction = d ∧ t ≠ .ignored d) := by
  unfold takeRise
  split
  · next d' h =>
    split
    · next e => subst e; exact .inr (.inl ⟨rfl, .inl h⟩)
    · next e => exact .inl ⟨rfl, _, h, e⟩
  · next t hn h =>
    split
    · next e =>
      split
      · next l =>
        refine .inr (.inr ⟨rfl, l, fun u hu => ?_⟩)
        obtain rfl : t = u := Option.some.inj (h.symm.trans hu)
        exact ⟨e, fun x => hn d x⟩
      · next l => exact .inr (.inl ⟨rfl, .inr (by simpa using l)⟩)
    · next e => exact .inl ⟨rfl, _, h, e⟩
  · next h =>
    split
    · next l => exact .inr (.inr ⟨rfl, l, fun u hu => by simp [h] at hu⟩)
    · next l => exact .inr (.inl ⟨rfl, .inr (by simpa using l)⟩)

/-- A transaction that the port takes, with its direction byte given before or not. -/
theorem takeRise_taken {p : PortId} {d : Direction} {s : State} (clocked : Nat) (act : State → State)
    (hl : s.portListens p = true) (ht : ∀ t, (s.port p).txn = some t → t.direction = d ∧ t ≠ .ignored d) :
    takeRise p d clocked act s = act s := by
  rcases takeRise_cases p d clocked act s with ⟨-, t, h, hd⟩ | ⟨-, h | h⟩ | ⟨h, -⟩
  · exact absurd (ht t h).1 hd
  · exact absurd rfl (ht _ h).2
  · simp [hl] at h
  · exact h

@[simp] theorem Txn.direction_ended (t : Txn) : t.ended.direction = t.direction := rfl
@[simp] theorem Txn.ended_ended (t : Txn) : t.ended.ended = t.ended := rfl

/-! ## Fields -/

@[simp] theorem Port.ignore_txn (q : Port) (n : Nat) : (q.ignore n).txn = none := rfl
@[simp] theorem Port.ignore_sdo (q : Port) (n : Nat) : (q.ignore n).sdo = List.replicate n 0 := rfl
@[simp] theorem Port.ignore_inbound (q : Port) (n : Nat) : (q.ignore n).inbound = q.inbound := rfl
@[simp] theorem Port.ignore_inExec (q : Port) (n : Nat) : (q.ignore n).inExec = q.inExec := rfl
@[simp] theorem Port.ignore_outbound (q : Port) (n : Nat) : (q.ignore n).outbound = q.outbound := rfl
@[simp] theorem Port.ignore_outstanding (q : Port) (n : Nat) : (q.ignore n).outstanding = q.outstanding := rfl
@[simp] theorem Port.ignore_inbox (q : Port) (n : Nat) : (q.ignore n).inbox = q.inbox := rfl
@[simp] theorem Port.ignore_sessionOpen (q : Port) (n : Nat) : (q.ignore n).sessionOpen = q.sessionOpen := rfl
@[simp] theorem Port.ignore_sessionNo (q : Port) (n : Nat) : (q.ignore n).sessionNo = q.sessionNo := rfl
@[simp] theorem Port.ignore_nextNumber (q : Port) (n : Nat) : (q.ignore n).nextNumber = q.nextNumber := rfl
@[simp] theorem Port.ignore_stale (q : Port) (n : Nat) : (q.ignore n).stale = q.stale := rfl

/-- What a port keeps through the end of a direction byte: everything but the transaction in progress and what it has sent. -/
theorem Port.begin_eq (q : Port) (d : Direction) : q.begin d = { q with txn := (q.begin d).txn, sdo := [] } := rfl

@[simp] theorem Port.begin_sdo (q : Port) (d : Direction) : (q.begin d).sdo = [] := rfl
@[simp] theorem Port.directionSent_sdo (q : Port) : q.directionSent.sdo = [] := rfl
@[simp] theorem Port.directionSent_txn (q : Port) : q.directionSent.txn = q.txn := rfl

/-- The transaction begun has the direction of its direction byte, and is not ignored. -/
theorem Port.begin_txn (q : Port) (d : Direction) : ∃ t, (q.begin d).txn = some t ∧ t.direction = d ∧ t ≠ .ignored d := by
  cases d <;> exact ⟨_, rfl, rfl, fun h => by cases h⟩

/-! ## The end of the direction byte -/

/-- The end of a direction byte does one of three things: nothing, with a transaction in progress; it begins a transaction of
its direction, taken or ignored; or it leaves a transaction of no direction, which only sends 00h. -/
theorem execDirectionByteEnd_cases (p : PortId) (first : DirectionByte) (s : State) :
    (execDirectionByteEnd p first s = .next s ∧ (s.port p).txn.isSome = true)
    ∨ (∃ d, Direction.ofByte first.value = some d ∧ (s.port p).txn = none
        ∧ ((s.portListens p = true ∧ first.begunLow = false
            ∧ execDirectionByteEnd p first s = .next (s.setPort p ((s.port p).begin d)))
          ∨ (¬ (s.portListens p = true ∧ first.begunLow = false)
            ∧ execDirectionByteEnd p first s =
              .next (s.setPort p { s.port p with txn := some (.ignored d), sdo := [] }))))
    ∨ (Direction.ofByte first.value = none ∧ (s.port p).txn = none
        ∧ execDirectionByteEnd p first s = .next (s.setPort p { s.port p with sdo := [] })) := by
  cases ht : (s.port p).txn with
  | some t => exact .inl ⟨by simp [execDirectionByteEnd, ht], by simp⟩
  | none =>
    cases hd : Direction.ofByte first.value with
    | none => exact .inr (.inr ⟨rfl, rfl, by simp [execDirectionByteEnd, ht, hd, Port.directionSent]⟩)
    | some d =>
      refine .inr (.inl ⟨d, rfl, rfl, ?_⟩)
      by_cases h : s.portListens p = true ∧ first.begunLow = false
      · exact .inl ⟨h.1, h.2, by simp [execDirectionByteEnd, ht, hd, h]⟩
      · exact .inr ⟨h, by simp [execDirectionByteEnd, ht, hd, h, Port.directionSent]⟩

/-- What SDOn carries while the direction byte is clocked (R145). -/
@[simp] theorem State.sdOut_zero (s : State) (p : PortId) : s.sdOut p 0 = 0 := rfl

end Sys2Proof.Machine
end

