-- ==== Sys2Proof/Laws/Selection.lean ====
section
/-! SUPPORT. The selection rule, case by case, and what starting, resuming and pushing a context leave alone. -/

namespace Sys2Proof.Machine

/-! ## Levels -/

theorem Player.admits_iff (x : Player) (level : Nat) : x.admits level = true ↔ level = 7 ∨ x.holdLevel < level := by
  simp [Player.admits]

theorem State.headLevel_admitted {s : State} {e : Entry} {rest : List Entry} (hq : s.queue = e :: rest)
    (ha : s.player.admits e.level = true) : s.headLevel = e.level := by
  simp [State.headLevel, hq, ha]

/-- Without an admissible head above a level, the head level is not above it either. -/
theorem State.headLevel_le {s : State} {l : Nat}
    (h : ∀ e, s.queue.head? = some e → s.player.admits e.level = true → e.level ≤ l) : s.headLevel ≤ l := by
  unfold State.headLevel
  split
  · rename_i e rest hq
    split
    · exact h e (by simp [hq]) ‹_›
    · exact Nat.zero_le _
  · exact Nat.zero_le _

theorem State.stackLevel_lt {s : State} {l : Nat} (h : ∀ c, s.player.stack.head? = some c → c.level.getD 0 < l)
    (hl : 0 < l) : s.stackLevel < l := by
  unfold State.stackLevel
  split
  · rename_i c rest hk
    exact h c (by simp [hk])
  · exact hl

/-! ## Selection with nothing holding the output -/

/-- A PLAY head above the top of the stack starts. -/
theorem selectHead_play {s : State} {e : Entry} {rest : List Entry} {tag : Word16} {n : SeqId} {o : Nat}
    (hq : s.queue = e :: rest) (ha : e.ask = .play tag n o) (hl : s.stackLevel < s.headLevel) :
    selectHead s = startContext e.level e.port tag n o { s with queue := rest } := by
  unfold selectHead selectIdle
  rw [hq]
  dsimp only
  rw [if_pos hl, ha]

/-- A DIRECT head above the top of the stack, of a port with a session, is offered the output. -/
theorem selectHead_direct {s : State} {e : Entry} {rest : List Entry} (hq : s.queue = e :: rest) (ha : e.ask = .direct)
    (hl : s.stackLevel < s.headLevel) (hs : (s.port e.port).sessionOpen = true) :
    selectHead s = offerDirect e.port e.level { s with queue := rest } := by
  unfold selectHead selectIdle
  rw [hq]
  dsimp only
  rw [if_pos hl, ha]
  exact if_pos hs

/-- With no head above the top of the stack, the top of the stack resumes, if there is one. -/
theorem selectHead_resumes {s : State} (hl : s.headLevel ≤ s.stackLevel) : selectHead s = resumeTop s := by
  unfold selectHead selectIdle
  split
  · rfl
  · rw [if_neg (Nat.not_lt.mpr hl)]

/-! ## Selection with a holder -/

theorem select_idle {s : State} (hl : s.player.linkUp = true) (ho : s.player.out = .idle) : select s = selectHead s := by
  simp [select, hl, ho]

/-- Without the link, selection changes nothing. -/
theorem select_linkDown {s : State} (hl : s.player.linkUp = false) : select s = s := by
  simp [select, hl]

/-- A halted player selects nothing. -/
theorem select_halted {s : State} (ho : s.player.out = .halted) : select s = s := by
  unfold select
  split
  · simp [ho]
  · rfl

/-- Selection never takes the output from the fallback context. -/
theorem select_fallback {s : State} {k : Nat} {c : Context} (ho : s.player.out = .fallback k c) : select s = s := by
  unfold select
  split
  · simp [ho]
  · rfl

theorem select_running {s : State} {k : Nat} {c : Context} (hl : s.player.linkUp = true)
    (ho : s.player.out = .running k c) :
    select s =
      if c.yields s.headLevel = true then selectHead (pushContext k c (c.cutBy s.headLevel) s.headLevel s) else s := by
  simp [select, hl, ho]

/-! ## Starting, resuming and pushing -/

/-- A context that starts changes the player, the latches, the port's notices, and what the load of its first step
changes. -/
theorem startContext_others (level : Nat) (p : PortId) (tag : Word16) (n : SeqId) (o : Nat) (s : State) :
    let count := if o = 0 then (s.seq n).repeatCount else o
    { startContext level p tag n o s with link := s.link, fromLink := s.fromLink } =
      ({ s with
        trig := { s.trig with latchA := Latch.clear, latchB := Latch.clear, latchSoft := Latch.clear }
        player := { s.player with
          lastNumber := s.player.lastNumber + 1
          out := .running (s.player.lastNumber + 1)
            { seq := n, port := some p, tag := tag, level := some level, idx := 0, remaining := passes count
              phase := some .staging, cut := false, late := 0 } } } : State).notify p
        (.contextStarted tag n level count) :=
  requestStep_others _ _ _ _

/-- A context that resumes changes the player, the latches, its submitter's notices, and what the load of its step
changes. -/
theorem resumeContext_others (c : Context) (s : State) :
    { resumeContext c s with link := s.link, fromLink := s.fromLink } =
      ({ s with
        trig := { s.trig with latchA := Latch.clear, latchB := Latch.clear, latchSoft := Latch.clear }
        player := { s.player with
          lastNumber := s.player.lastNumber + 1
          out := .running (s.player.lastNumber + 1) { c with phase := some .staging } } } : State).notifySubmitter c.port
        (.contextResumed c.tag c.idx c.cut) := by
  obtain ⟨seq, port, tag, level, idx, remaining, phase, cut, late⟩ := c
  cases port <;> exact requestStep_others _ _ _ _

/-- A context that is pushed leaves the output, and its step index and cut flag stand on the stack. -/
theorem pushContext_others (k : Nat) (c : Context) (cut : Bool) (level : Nat) (s : State) {p : PortId}
    (hp : c.port = some p) :
    { pushContext k c cut level s with link := s.link, lights := s.lights } =
      ({ s with
        trig := { s.trig with wait := none }
        player := { s.player with
          holdTimer := none, gapTimer := none, out := .idle
          stack := { c with phase := none, cut := cut } :: s.player.stack } } : State).notify p
        (.contextPreempted c.tag c.idx level cut) := by
  obtain ⟨seq, port, tag, lv, idx, remaining, phase, cut', late⟩ := c
  subst hp
  exact congrArg (fun t : State =>
    ({ t with player := { t.player with
        out := .idle
        stack := { seq := seq, port := some p, tag := tag, level := lv, idx := idx, remaining := remaining
                   phase := none, cut := cut, late := late } :: t.player.stack } } : State).notify p
      (.contextPreempted tag idx level cut)) (silence_others k s)

/-- A context that is pushed leaves every channel off. -/
theorem light_pushContext (k : Nat) (c : Context) (cut : Bool) (level : Nat) (s : State) (ch : ChannelId) :
    ((pushContext k c cut level s).light ch).on = false
      ∧ ((pushContext k c cut level s).light ch).limit = (s.light ch).limit
      ∧ ((pushContext k c cut level s).light ch).trip = (s.light ch).trip := by
  have h : (pushContext k c cut level s).light ch = (silence k s).light ch := by
    obtain ⟨seq, port, tag, lv, idx, remaining, phase, cut', late⟩ := c
    cases port <;> rfl
  have d : (discard k (cancelWait (stopTimers s))).light ch = s.light ch := by
    have := congrArg (fun t : State => t.light ch) (discard_others k (cancelWait (stopTimers s)))
    exact this
  have := light_lightsOff (discard k (cancelWait (stopTimers s))) ch
  rw [h]
  rw [d] at this
  exact this

/-! ## A step on display -/

/-- The part right after a SWAPPED answer, before the step ahead is asked for. -/
def shownStep (k : Nat) (c : Context) (x : Step) (s : State) : State :=
  let t := (lightRequest { who := c.holder, number := k } x.mask (syncPulse s)).setContext { c with cut := false }
  { t with player := { t.player with holdTimer := some (x.hold * Config.holdUnit) } }

/-- The SWAPPED answer of the last step of a context asks for nothing more. -/
theorem showStep_last {k : Nat} {c : Context} {x : Step} {s : State} (hx : stepOf s c c.idx = some x)
    (ha : c.ahead (s.seq c.seq).steps.length = none) : showStep k c s = shownStep k c x s := by
  unfold showStep
  rw [hx]
  show (match c.ahead (s.seq c.seq).steps.length with
    | some idx => requestStep k { c with cut := false } idx (shownStep k c x s)
    | none => shownStep k c x s) = _
  rw [ha]

/-- The SWAPPED answer of a step with one ahead asks for that one. -/
theorem showStep_ahead {k : Nat} {c : Context} {x : Step} {s : State} {j : Nat} (hx : stepOf s c c.idx = some x)
    (ha : c.ahead (s.seq c.seq).steps.length = some j) :
    showStep k c s = requestStep k { c with cut := false } j (shownStep k c x s) := by
  unfold showStep
  rw [hx]
  show (match c.ahead (s.seq c.seq).steps.length with
    | some idx => requestStep k { c with cut := false } idx (shownStep k c x s)
    | none => shownStep k c x s) = _
  rw [ha]

theorem light_shownStep (k : Nat) (c : Context) (x : Step) (s : State) (ch : ChannelId) :
    ((shownStep k c x s).light ch).on = x.mask.getLsbD ch.val
      ∧ ((shownStep k c x s).light ch).limit = (s.light ch).limit
      ∧ ((shownStep k c x s).light ch).trip = (s.light ch).trip :=
  light_lightRequest { who := c.holder, number := k } x.mask (syncPulse s) ch

end Sys2Proof.Machine
end

