-- ==== Sys2Proof/Tests/Slice0.lean ====
section
/-! SUPPORT. Small checks of one command each, with expected values from the spec; the refusals of WellFormed; and, for
each statement with hypotheses, concrete values that meet them together, clause by clause. -/

namespace Sys2Proof.Tests

open Sys2Proof.Machine

set_option Elab.async false

/-! ## Small states -/

/-- A part after its release, its link up and idle and its library read: port 0 is CONTROL, the others ORDINARY, and every
port has its first session open. -/
def live : State :=
  let host (cls : PortClass) : Port := { Port.afterReset cls false with sessionOpen := true, sessionNo := 1 }
  { State.reset with
    resetLow := false
    ports := #v[host .control, host .ordinary, host .ordinary, host .ordinary]
    lib := { Loader.afterReset with state := .valid, reason := .none }
    player := { Player.afterReset with linkUp := true }
    link := { Link.afterReset with state := .idle } }

/-- The code of a command. -/
def codeOf (cmd : Command) : Byte :=
  (((List.range 256).map (BitVec.ofNat 8)).find? fun c => Command.ofCode c == some cmd).getD 0

/-- Port p's request in execution is the one given. -/
def asks (s : State) (p : PortId) (cmd : Command) (place : Place) (body : List Byte) : State :=
  s.setPort p { s.port p with
    inExec := some { tag := 1, code := codeOf cmd, body := body, session := 1, place := place } }

/-- `Asked`, as a check. -/
def asked? (s : State) (p : PortId) (cmd : Command) (place : Place) (body : List Byte) : Bool :=
  match (s.port p).inExec with
  | some e =>
    decide (Command.ofCode e.code = some cmd ∧ e.place = place ∧ e.body = body ∧ s.mayTake p e = true
      ∧ (s.port p).sessionOpen = true ∧ (s.port p).sessionNo = e.session)
  | none => false

theorem asked_of {s : State} {p : PortId} {cmd : Command} {place : Place} {body : List Byte}
    (h : asked? s p cmd place body = true) : Asked s p cmd place body := by
  unfold asked? at h
  split at h
  · rename_i e he
    obtain ⟨h1, h2, h3, h4, h5, h6⟩ := of_decide_eq_true h
    exact ⟨e, he, h1, h2, h3, h4, h5, h6⟩
  · cases h

/-- The replies a port has been handed after a command, oldest first. -/
def replies (p : PortId) (r : Result) : Option (List (Status × List Byte)) :=
  match r with
  | .next t => some (t.repliesTo p)
  | _ => none

/-- What a command's next state shows. -/
def shows {α : Type} (f : State → α) (r : Result) : Option α :=
  match r with
  | .next t => some (f t)
  | _ => none

def held (p : PortId) : Slot := { Slot.free with content := .held, owner := some p }
def ready (p : PortId) (pins : Nat) : Slot := { Slot.free with content := .ready 0 .host, owner := some p, pins := pins }
def filling (p : PortId) (k : Nat) (crc : Crc32) : Slot := { Slot.free with content := .filling k crc, owner := some p }
def loading (p : PortId) (k : Nat) (crc : Crc32) : Slot := { Slot.free with content := .loading k crc, owner := some p }

def timed (slot : SlotId) : Step := { slot := slot, hold := 500, gap := 100, advance := .timed, mask := 1, verify := false }
def sealed (p : PortId) (steps : List Step) (uses : Nat) : Sequence :=
  { state := .sealed, owner := some p, repeatCount := 1, steps := steps, uses := uses, orphan := false }
def opened (p : PortId) (steps : List Step) : Sequence :=
  { state := .opened, owner := some p, repeatCount := 1, steps := steps, uses := 0, orphan := false }

/-- A context of port 1 on sequence 4, at level 3. -/
def context (phase : Option Phase) : Context :=
  { seq := 4, port := some 1, tag := 100, level := some 3, idx := 0, remaining := .count 0, phase := phase
    cut := false, late := 0 }

/-- The part with sequence 4 of two TIMED steps, and the context on it holding the output under number 5. -/
def running (phase : Phase) : State :=
  let s := live.setSeq 4 (sealed 1 [timed 1, timed 2] 1)
  { s with player := { s.player with out := .running 5 (context (some phase)), lastNumber := 5 } }

/-! ## Well-formedness -/

theorem test_wellFormed_emptyBurst : WellFormed (.flashBurstDone []) = false := by decide
theorem test_wellFormed_longBurst : WellFormed (.flashBurstDone (List.replicate 257 0)) = false := by decide +kernel
theorem test_wellFormed_bursts :
    WellFormed (.flashBurstDone [0]) = true ∧ WellFormed (.flashBurstDone (List.replicate 256 0)) = true := by
  decide +kernel

/-! ## Formats -/

/-- No row of the table has bits, so no word spells a command. -/
theorem test_decode_none : decodeTableWord 32 0x12345678 = none := by decide

/-- The CRC values R180 gives. -/
theorem test_crc : crc16 [0x31, 0x32, 0x33, 0x34, 0x35, 0x36, 0x37, 0x38, 0x39] = 0x29B1
    ∧ crc32 [0x31, 0x32, 0x33, 0x34, 0x35, 0x36, 0x37, 0x38, 0x39] = 0xCBF43926 ∧ crc32 [] = 0 := by decide +kernel

/-- The sizes of the frames of spec/11_message_formats_and_worked_transactions.md, "Worked transaction: filling one slot". -/
theorem test_frameSizes :
    (Request.frame { tag := 1, code := 0x11, body := slotBytes 12, duplicate := false }).length = 9
    ∧ (Request.frame { tag := 67, code := 0x12, body := slotBytes 12 ++ le4 65520 ++ List.replicate 16 0
                       duplicate := false }).length = 29 := by decide +kernel

/-- A changed CRC byte makes a bad frame (R160). -/
theorem test_badCrc :
    checkFrame ((Request.frame { tag := 1, code := 0x11, body := [], duplicate := false }).dropLast ++ [0]) = none := by
  decide +kernel

/-- The capacities block has 41 bytes (R177). -/
theorem test_capacities : capacities.length = 41 := by decide

/-- The lengths of the records of R175. -/
theorem test_recordLengths : (contextRecord (context none)).length = 12 ∧ (faultField none).length = (faultField (some
    { kind := .linkDown, holder := .context, seq := none, idx := none, slot := none, port := none, level := none
      reason := none })).length := by decide

/-- Run headers 02h and FFh of a packed plane: 3 literal bytes, and one byte 130 times (R25). -/
theorem test_packed :
    expandRuns [2, 7, 8, 9, 0xFF, 5] .header 6 133 =
      { out := [7, 8, 9] ++ List.replicate 130 5, run := .header, failed := false } := by decide +kernel

/-- A run that passes the end of the plane is a format error (R25). -/
theorem test_packedPastEnd : (expandRuns [0x80, 5] .header 2 2).failed = true := by decide

/-! ## Single commands -/

/-- "A PORT_RESET empties the port": the item number is 0 again and five blocks are told (R151, R157). -/
theorem test_portReset :
    shows (fun t => ((t.port 1).sessionOpen, (t.port 1).nextNumber, t.announcements.length))
      (exec (.portReset 1) (live.setPort 1 { live.port 1 with nextNumber := 9 })) = some (false, 0, 5) := by decide +kernel

/-- The last session number wraps (R155). -/
theorem test_openSession_wraps :
    let q : Port := { live.port 1 with sessionOpen := false, sessionNo := 0xFFFF }
    shows (fun t => (t.port 1).sessionNo)
      (exec (.openSession 1) (live.setPort 1 { q with inbound := [{ tag := 1, code := 1, body := [], duplicate := false }] }))
      = some 0 := by decide +kernel

/-- The status byte: outstanding 2, more items waiting, session open (R174). -/
theorem test_statusByte :
    let item (n : Word16) : Item := { kind := .reply, tag := 7, number := n, code := 0, lost := false, body := [] }
    let q : Port := { live.port 1 with outbound := [item 0, item 1], outstanding := 2 }
    shows (fun t => (t.port 1).txn) (exec (.directionByteEnd 1 { value := 0x02, begunLow := false }) (live.setPort 1 q))
      = some (some (.reading .read 0x4A (item 0))) := by decide +kernel

/-- A WRITE under way at a fall of PRSTn_n is ignored, though it ends after the rise (R151). -/
def writeUnderReset : State := live.setPort 1 { live.port 1 with txn := some (.ignored .write) }

theorem test_write_underReset :
    shows (fun t => (t.port 1).txn) (exec (.prstFall 1) (live.setPort 1 { live.port 1 with txn := some .write }))
      = some (some (.ignored .write))
    ∧ shows (fun t => ((t.port 1).txn, (t.port 1).badFrame, (t.port 1).sdo)) (exec (.write 1 [7]) writeUnderReset)
      = some (none, false, [0]) := by decide +kernel

/-- A PORT_RESET, and a transaction of no direction, send 00h, whatever was sent before; the latter changes nothing else
(R145). -/
theorem test_directions :
    let before := live.setPort 1 { live.port 1 with sdo := [7] }
    shows (fun t => (List.range 3).map (t.sdOut 1)) (exec (.portReset 1) before) = some [0, 0, 0]
    ∧ shows (fun t => ((List.range 3).map (t.sdOut 1), decide ({ t with ports := before.ports } = before)))
        (exec (.directionByteEnd 1 { value := 0x04, begunLow := false }) before) = some ([0, 0, 0], true) := by decide +kernel

/-- A READ under way sends 00h with its direction byte, then the status byte, then the item (R145, R147). -/
theorem test_sdOut_read :
    let q : Port := { live.port 1 with sdo := [7], nextNumber := 0x0102 }
    shows (fun t => (List.range 3).map (t.sdOut 1))
      (exec (.directionByteEnd 1 { value := 0x02, begunLow := false }) (live.setPort 1 q))
      = some [0, 0x40, (Item.emptyItem 0x0102).bytes.headD 0xFF] := by decide +kernel

/-- An item not fully clocked stays (R147). -/
theorem test_read_short :
    let item : Item := { kind := .reply, tag := 7, number := 0, code := 0, lost := false, body := [] }
    let q : Port := { live.port 1 with outbound := [item], outstanding := 1, txn := some (.reading .read 0x41 item) }
    shows (fun t => ((t.port 1).outbound.length, (t.port 1).outstanding)) (exec (.read 1 10) (live.setPort 1 q))
      = some (1, 1)
    ∧ shows (fun t => ((t.port 1).outbound.length, (t.port 1).outstanding)) (exec (.read 1 11) (live.setPort 1 q))
      = some (0, 0) := by decide +kernel

/-- ANY allocates the lowest-numbered FREE slot (R4). -/
theorem test_allocate_any :
    replies 1 (exec (.allocateSlot 1) (asks (live.setSlot 0 (held 2)) 1 .allocateSlot (.atBlock .store) [0xFF, 0xFF]))
      = some [(.done, [1, 0])] := by decide +kernel

/-- "The data length ... must be from 16 to 1008 bytes and a multiple of 16" (R7). -/
theorem test_writePlane_length :
    replies 1 (exec (.writePlane 1) (asks (live.setSlot 12 (filling 1 0 0)) 1 .writePlane (.atBlock .store)
      (slotBytes 12 ++ le4 0 ++ List.replicate 24 0))) = some [(.badLength, [])] := by decide +kernel

/-- The row of tag 67: 16 bytes at 65,520 fill the slot (spec/11, "Worked transaction: filling one slot"). -/
theorem test_writePlane_last :
    replies 1 (exec (.writePlane 1) (asks (live.setSlot 12 (filling 1 65520 0)) 1 .writePlane (.atBlock .store)
      (slotBytes 12 ++ le4 65520 ++ List.replicate 16 0))) = some [(.done, [0, 0, 1, 0])] := by decide +kernel

/-- A CLOSE_FILL with another CRC leaves the slot HELD with CHECK_FAILED (R8). -/
theorem test_closeFill_fails :
    shows (fun t => ((t.slot 12).content, (t.slot 12).lastResult)) (exec (.closeFill 1)
      (asks (live.setSlot 12 (filling 1 65536 1)) 1 .closeFill (.atBlock .store) (slotBytes 12 ++ crcBytes 2)))
      = some (.held, .checkFailed) := by decide +kernel

/-- A pinned READY slot cannot be freed (R10). -/
theorem test_freeSlot_pinned :
    replies 1 (exec (.freeSlot 1) (asks (live.setSlot 12 (ready 1 1)) 1 .freeSlot (.atBlock .store) (slotBytes 12)))
      = some [(.inUse, [])] := by decide +kernel

/-- A failed batch names its step: the second slot is not READY (R44, R12). -/
theorem test_appendSteps_notReady :
    let s := (live.setSlot 1 (ready 1 0)).setSeq 4 (opened 1 [])
    replies 1 (exec (.appendSteps 1) (asks s 1 .appendSteps (.atBlock .table)
      ([4, 2] ++ stepRecord (timed 1) ++ stepRecord (timed 2)))) = some [(.wrongState, [1])] := by decide +kernel

/-- Removing more steps than there are is refused (R46). -/
theorem test_removeSteps_tooMany :
    let s := (live.setSlot 1 (ready 1 1)).setSeq 4 (opened 1 [timed 1])
    shows (fun t => (t.seq 4).steps.length) (exec (.removeSteps 1) (asks s 1 .removeSteps (.atBlock .table) [4, 2]))
      = some 1 := by decide +kernel

/-- Equal levels keep their order of arrival: the entry goes behind (R60). -/
theorem test_submit_behindEqual :
    let s := { live.setSeq 4 (sealed 2 [timed 1] 0) with queue := [{ level := 3, port := 2, ask := .direct }] }
    replies 1 (exec (.submit 1) (asks s 1 .submit (.atBlock .queue) [4, 3, 100, 0, 0, 0]))
      = some [(.done, [1, 2])] := by decide +kernel

/-- Level 7 is reserved for CONTROL ports (R62). -/
theorem test_submit_levelSeven :
    let s := live.setSeq 4 (sealed 2 [timed 1] 0)
    replies 1 (exec (.submit 1) (asks s 1 .submit (.atBlock .queue) [4, 7, 100, 0, 0, 0]))
      = some [(.notPermitted, [])] := by decide +kernel

/-- H is at most 6 (R72). -/
theorem test_setHoldLevel_seven :
    replies 0 (exec (.setHoldLevel 0) (asks live 0 .setHoldLevel (.atBlock .player) [7]))
      = some [(.badArgument, [])] := by decide +kernel

/-- A level-7 head cuts a context in HOLD and pushes it with its cut flag set (spec/11, "Worked transaction: three ports
share the output", row 6). -/
theorem test_select_cut :
    let s := { running .hold with selects := 1, queue := [{ level := 7, port := 0, ask := .play 1 4 0 }] }
    shows (fun t => (t.player.stack.map fun c => (c.tag, c.idx, c.cut)))
      (exec .selectRequest s) = some [(100, 0, true)] := by decide +kernel

/-- A level-6 head waits for the end of a hold (R85). -/
theorem test_select_waits :
    let s := { running .hold with selects := 1, queue := [{ level := 6, port := 0, ask := .play 1 4 0 }] }
    shows (fun t => t.player.out) (exec .selectRequest s) = some s.player.out := by decide +kernel

/-- A trigger on a set latch is lost and flagged (R108). -/
theorem test_trigger_overrun :
    let s := { live with trig := { live.trig with latchSoft := { pending := true, overrun := false } } }
    replies 0 (exec (.trigger 0) (asks s 0 .trigger (.atBlock .trigger) [])) = some [(.done, [2])]
    ∧ shows (fun t => t.trig.latchSoft) (exec (.trigger 0) (asks s 0 .trigger (.atBlock .trigger) []))
      = some { pending := true, overrun := true } := by decide +kernel

/-- An edge of the other direction is no trigger (R106). -/
theorem test_edge_otherDirection :
    let s := { live with trig := { live.trig with cfgA := { enabled := true, falling := true } } }
    shows (fun t => (t.trig.levelA, t.trig.latchA.pending)) (exec (.recognisedLevelChange .a true) s)
      = some (true, false) := by decide +kernel

/-- An answer timer that runs out takes the link to FAILED (R121). -/
theorem test_answerTimer :
    let s := { live with link := { live.link with state := .awaitBlanked, timer := some 2000 } }
    shows (fun t => (t.link.state, t.fromLink)) (exec .answerTimerExpiry s)
      = some (.failed, [.report false .none]) := by decide +kernel

/-- A channel at its limit goes off and is tripped (R130). -/
theorem test_lightLimit :
    let s := live.setLight 2 { on := true, holder := some { who := .fallback, number := 5 }, onTime := 300, limit := 4, trip := false }
    shows (fun t => ((t.light 2).on, (t.light 2).trip, t.fromLights.length)) (exec (.lightLimitExpiry 2) s)
      = some (false, true, 1) := by decide +kernel

/-- Bytes before the start token are ignored, and a second FEh is data (R23). -/
theorem test_startToken :
    let b : Burst := { offset := 0x010203, length := 2, timer := some 1000 }
    b.rows [0, 0xFF, 0xFE, 0xFE, 7, 9] = [.startToken, .flashBurstDone [0xFE, 7]] ∧ b.rows [0, 0xFF, 0xFE, 7] = [.startToken]
    ∧ b.rows [0, 0xFF] = [] ∧ { b with timer := none }.rows [7, 0xFE, 9] = [.flashBurstDone [7, 0xFE]]
    ∧ b.command = [0x03, 0x03, 0x02, 0x01] := by decide +kernel

/-- The burst after the release awaits its start token, and bytes other than FEh may come before it. -/
theorem witness_Bursts_token :
    let b : Burst := { offset := 0, length := 10, timer := some 1000 }
    (State.lib { live with lib := { live.lib with burst := some b } }).burst = some b ∧ b.timer ≠ none
      ∧ ∀ x ∈ [(0 : Byte), 0xFD, 0xFF], x ≠ 0xFE := by decide

/-- A burst that no start token has begun brings nothing (R23). -/
theorem test_burst_unanswered :
    let s := { live with lib := { live.lib with burst := some { offset := 0, length := 1, timer := some 1000 } } }
    shows (fun t => (t.lib, t.planeMem)) (exec (.flashBurstDone [0]) s) = some (s.lib, s.planeMem) := by decide +kernel

/-- The release starts the scan of the 10-byte header (R24, R37). -/
theorem test_release :
    shows (fun t => (t.lib.state, t.lib.burst.map Burst.length, t.link.state))
      (exec (.resetRelease 1 true false false) State.reset) = some (.scanning, some 10, .awaitBlanked) := by decide +kernel

/-! ## The hypotheses of the statements, met -/

/-- An OPEN_FILL of slot 12, as a frame brings it. -/
def openFill12 : Request := { tag := 1, code := 0x11, body := slotBytes 12, duplicate := false }

/-- The same request in execution at a place. -/
def inExec12 (place : Place) : InExec := { tag := 1, code := 0x11, body := slotBytes 12, session := 1, place := place }

/-- A reply item of one port. -/
def item (n : Word16) : Item := { kind := .reply, tag := 7, number := n, code := 0, lost := false, body := [] }

/-- Port 1 of the live part, changed. -/
def withPort (f : Port → Port) : State := live.setPort 1 (f (live.port 1))

/-- An announcement of port 1's session end. -/
def ends (b : Block) : Announcement := { block := b, port := 1, session := 1 }

/-- An entry of the queue at a level. -/
def entry (level : Nat) (port : PortId) (ask : Ask) : Entry := { level := level, port := port, ask := ask }

theorem ok_of {ε α : Type} {x : Except ε α} (h : x.toBool = true) : ∃ a, x = .ok a := by
  cases x with
  | ok a => exact ⟨a, rfl⟩
  | error e => cases h

theorem witness_StepRunsFrontCommand :
    ({ live with pending := [.startToken] } : State).pending = Instr.startToken :: [] := rfl

/-- A frame whose tag is 0 is bad (R160). -/
theorem test_frame_tagZero :
    checkFrame openFill12.frame = some openFill12 ∧ checkFrame (Request.frame { openFill12 with tag := 0 }) = none := by
  decide +kernel

theorem witness_WriteJudgesItsFrame :
    let s (n : Nat) (t : Option Txn) := withPort fun q => { q with outstanding := n, txn := t }
    let low := withPort fun q => { q with prstLow := true, txn := some .write }
    (∀ n ∈ [3, 4], ∀ t ∈ [none, some Txn.write],
        (s n t).portListens 1 = true ∧ ((s n t).port 1).txn = t ∧ ((s n t).port 1).outstanding = n)
      ∧ checkFrame openFill12.frame = some openFill12 ∧ checkFrame [] = none
      ∧ ((s 0 (some (.ignored .write))).port 1).txn = some (.ignored .write)
      ∧ low.portListens 1 = false ∧ (low.port 1).txn = some .write := by decide +kernel

theorem witness_RequestsStartInOrder :
    let q := live.port 1
    ({ q with inExec := some (inExec12 .answered) } : Port).inExec.isSome = true
      ∧ q.inExec = none ∧ q.inbound = []
      ∧ Command.ofCode 0xFF = none
      ∧ Command.ofCode 0x03 = some .deviceInfo ∧ Command.deviceInfo.block = none
      ∧ Command.ofCode openFill12.code = some .openFill ∧ Command.openFill.block = some .store
      ∧ openFill12.duplicate = false ∧ q.sessionOpen = true
      ∧ ({ q with inbound := [openFill12], sessionOpen := false } : Port).inbound = [openFill12] := by decide +kernel

theorem witness_DirectionByteEnd :
    let s := withPort fun q => { q with outstanding := 4, outbound := [item 0, item 1] }
    let low := withPort fun q => { q with prstLow := true }
    s.portListens 1 = true ∧ (s.port 1).txn = none ∧ (s.port 1).outstanding ≤ 4
      ∧ low.portListens 1 = false ∧ (low.port 1).txn = none
      ∧ (0x04 : Byte) ≠ 0x01 ∧ (0x04 : Byte) ≠ 0x02 ∧ (0x04 : Byte) ≠ 0x03 ∧ (0x04 : Byte) ≠ 0x0F := by decide +kernel

theorem witness_ReadDelivers :
    let s (t : Option Txn) := withPort fun q => { q with outbound := [item 0], txn := t }
    (∀ kind ∈ [ReadKind.read, .readAgain],
        (s (some (.reading kind 0x41 (item 0)))).portListens 1 = true
          ∧ ((s (some (.reading kind 0x41 (item 0)))).port 1).txn = some (.reading kind 0x41 (item 0)))
      ∧ (item 0).body.length + 11 ≤ 11
      ∧ (∀ d ∈ [Direction.read, .readAgain], ((s (some (.ignored d))).port 1).txn = some (.ignored d))
      ∧ (s none).portListens 1 = true ∧ ((s none).port 1).txn = none
      ∧ (∀ byte ∈ [(0x02 : Byte), 0x03],
        (shows State.resetLow (exec (.directionByteEnd 1 { value := byte, begunLow := false }) (s none))).isSome = true) := by decide +kernel

theorem witness_PortReset :
    let s (t : Option Txn) := withPort fun q => { q with txn := t }
    (∀ t ∈ [none, some Txn.portReset], (s t).portListens 1 = true ∧ ((s t).port 1).txn = t)
      ∧ ((s (some (.ignored .portReset))).port 1).txn = some (.ignored .portReset)
      ∧ (live.port 1).prstLow = false := by decide +kernel

theorem witness_ReplyArrival :
    let s := withPort fun q => { q with inbox := [.reply .done []], inExec := some (inExec12 .answered) }
    let u := s.setPort 1 { s.port 1 with stale := true }
    (s.port 1).inbox = Handed.reply .done [] :: [] ∧ (s.port 1).inExec = some (inExec12 .answered)
      ∧ (s.port 1).stale = false ∧ (u.port 1).inbox = Handed.reply .done [] :: []
      ∧ (u.port 1).inExec = some (inExec12 .answered) ∧ (u.port 1).stale = true := by decide +kernel

theorem witness_NoticeArrival :
    let x : Notice := .directOffered 3
    ((withPort fun q => { q with inbox := [.notice x] }).port 1).inbox = Handed.notice x :: [] := by decide +kernel

theorem witness_PortExecutesItsOwnCommands :
    let own (code : Byte) : Request := { tag := 1, code := code, body := [], duplicate := false }
    let s (code : Byte) := withPort fun q => { q with inbound := [own code] }
    (∀ code ∈ [0x01, 0x02, 0x03], ((s code).port 1).inExec = none ∧ ((s code).port 1).inbound = [own code])
      ∧ Command.ofCode 0x01 = some .openSession ∧ Command.ofCode 0x02 = some .closeSession
      ∧ Command.ofCode 0x03 = some .deviceInfo := by decide +kernel

theorem witness_ResetRelease : State.reset.resetLow = true := rfl

theorem witness_LateRequests :
    let s := withPort fun q => { q with inExec := some (inExec12 (.atBlock .store)), sessionOpen := false }
    let u := withPort fun q => { q with inExec := some (inExec12 (.atBlock .store)), sessionNo := 2 }
    (s.port 1).inExec = some (inExec12 (.atBlock .store)) ∧ (u.port 1).inExec = some (inExec12 (.atBlock .store))
      ∧ rowAt 1 .openFill (.atBlock .store) = some (.openFill 1)
      ∧ s.mayTake 1 (inExec12 (.atBlock .store)) = true ∧ u.mayTake 1 (inExec12 (.atBlock .store)) = true
      ∧ (s.port 1).sessionOpen = false ∧ (u.port 1).sessionNo ≠ (inExec12 (.atBlock .store)).session := by
  decide +kernel

theorem witness_EveryRequest :
    rowAt 1 .openFill (.atBlock .store) = some (.openFill 1)
      ∧ Asked (asks live 1 .openFill (.atBlock .store) []) 1 .openFill (.atBlock .store) []
      ∧ rowAt 1 .cancel .passedCancel = some (.cancelContext 1)
      ∧ Asked (asks live 1 .cancel .passedCancel [1, 100, 0]) 1 .cancel .passedCancel [1, 100, 0] :=
  ⟨rfl, asked_of (by decide +kernel), rfl, asked_of (by decide +kernel)⟩

theorem witness_RequestsAreChecked :
    Asked (asks live 1 .openFill (.atBlock .store) [1]) 1 .openFill (.atBlock .store) [1]
      ∧ Asked (asks live 1 .rescanLibrary (.atBlock .loader) []) 1 .rescanLibrary (.atBlock .loader) []
      ∧ (live.port 1).cls = .ordinary
      ∧ Asked (asks live 1 .freeSlot (.atBlock .store) (le2 448)) 1 .freeSlot (.atBlock .store) (le2 448)
      ∧ 447 < field2 (le2 448) 0
      ∧ Asked (asks live 1 .cancelLoad (.atBlock .loader) (slotBytes 447)) 1 .cancelLoad (.atBlock .loader) (slotBytes 447)
      ∧ (live.slot 447).owner ≠ some 1 ∧ live.lib.jobs = []
      ∧ Asked (asks live 1 .sealSequence (.atBlock .table) [32]) 1 .sealSequence (.atBlock .table) [32]
      ∧ Asked (asks live 1 .sealSequence (.atBlock .table) [31]) 1 .sealSequence (.atBlock .table) [31]
      ∧ (live.seq 31).owner ≠ some 1 :=
  ⟨asked_of (by decide +kernel), asked_of (by decide +kernel), by decide +kernel, asked_of (by decide +kernel),
    by decide +kernel, asked_of (by decide +kernel), by decide +kernel, rfl, asked_of (by decide +kernel),
    asked_of (by decide +kernel), by decide +kernel⟩

theorem witness_RequestsAreChecked_lists :
    let steps := [(4 : Byte), 1] ++ stepRecord (timed 1)
    Asked (asks live 1 .writePlane (.atBlock .store) (List.replicate 22 0)) 1 .writePlane (.atBlock .store)
        (List.replicate 22 0)
      ∧ Asked (asks live 1 .writePlane (.atBlock .store) (List.replicate 21 0)) 1 .writePlane (.atBlock .store)
        (List.replicate 21 0)
      ∧ Asked (asks live 1 .appendSteps (.atBlock .table) steps) 1 .appendSteps (.atBlock .table) steps
      ∧ steps.length = 2 + 8 * 1
      ∧ Asked (asks live 1 .loadPlanes (.atBlock .loader) [0, 0, 0, 0]) 1 .loadPlanes (.atBlock .loader) [0, 0, 0, 0]
      ∧ Asked (asks { live with lib := { live.lib with state := .scanning } } 1 .loadPlanes (.atBlock .loader) [0, 0, 0, 0])
        1 .loadPlanes (.atBlock .loader) [0, 0, 0, 0] :=
  ⟨asked_of (by decide +kernel), asked_of (by decide +kernel), asked_of (by decide +kernel), rfl,
    asked_of (by decide +kernel), asked_of (by decide +kernel)⟩

/-- Each clause of ALLOCATE_SLOT, at the numbers 448, 65534, 447 and FFFFh. -/
theorem witness_AllocateSlot :
    (∀ body ∈ [[], le2 448, le2 65534, slotBytes 447, [0xFF, 0xFF]],
      Asked (asks live 1 .allocateSlot (.atBlock .store) body) 1 .allocateSlot (.atBlock .store) body)
      ∧ (live.slot 447).content = .free ∧ ((live.setSlot 447 (held 2)).slot 447).content ≠ .free
      ∧ (let s := live.setSlot 0 (held 2)
         (s.slot 1).content = .free ∧ ∀ m : SlotId, m < 1 → (s.slot m).content ≠ .free)
      ∧ (∀ n : SlotId, (State.slot { live with slots := Vector.replicate 448 (held 2) } n).content ≠ .free) := by
  refine ⟨fun body hb => asked_of ?_, by decide +kernel, by decide +kernel, ⟨by decide +kernel, ?_⟩, ?_⟩
  rotate_left
  · intro m hm
    obtain rfl : m = 0 := Fin.ext (by have : m.val < 1 := hm; omega)
    decide +kernel
  · intro n
    simp [State.slot, held]
  revert hb
  revert body
  decide +kernel

theorem witness_Fills :
    (∀ x ∈ [held 1, ready 1 0, ready 1 1, filling 1 16 0, loading 1 16 0],
        ((live.setSlot 12 x).slot 12).owner = some 1
          ∧ asked? (asks (live.setSlot 12 x) 1 .openFill (.atBlock .store) (slotBytes 12)) 1 .openFill (.atBlock .store)
            (slotBytes 12) = true)
      ∧ (∀ x ∈ [filling 1 65536 0, filling 1 65520 0],
        ((live.setSlot 12 x).slot 12).owner = some 1
          ∧ asked? (asks (live.setSlot 12 x) 1 .closeFill (.atBlock .store) (slotBytes 12 ++ crcBytes 0)) 1 .closeFill
            (.atBlock .store) (slotBytes 12 ++ crcBytes 0) = true) := by decide +kernel

/-- A write at the progress that fills the slot, and one past its end. -/
theorem witness_WritePlane :
    let s := live.setSlot 12 (filling 1 65520 0)
    let body (n : Nat) := slotBytes 12 ++ le4 65520 ++ List.replicate n 0
    (s.slot 12).owner = some 1 ∧ (s.slot 12).content = .filling 65520 0
      ∧ Asked (asks s 1 .writePlane (.atBlock .store) (body 16)) 1 .writePlane (.atBlock .store) (body 16)
      ∧ Asked (asks s 1 .writePlane (.atBlock .store) (body 32)) 1 .writePlane (.atBlock .store) (body 32)
      ∧ 65520 + 16 ≤ 65536 ∧ 65536 < 65520 + 32 :=
  ⟨by decide +kernel, by decide +kernel, asked_of (by decide +kernel), asked_of (by decide +kernel), by decide,
    by decide⟩

theorem witness_AbandonAndFree :
    ∀ x ∈ [held 1, ready 1 0, ready 1 1, filling 1 16 0, loading 1 16 0],
      ((live.setSlot 12 x).slot 12).owner = some 1
        ∧ asked? (asks (live.setSlot 12 x) 1 .abandonFill (.atBlock .store) (slotBytes 12)) 1 .abandonFill
          (.atBlock .store) (slotBytes 12) = true
        ∧ asked? (asks (live.setSlot 12 x) 1 .freeSlot (.atBlock .store) (slotBytes 12)) 1 .freeSlot
          (.atBlock .store) (slotBytes 12) = true := by decide +kernel

theorem witness_References :
    let s := live.setSlot 1 (ready 1 2)
    (∀ n ∈ [(1 : SlotId), 1], (s.slot n).isReady = true) ∧ (s.slot 2).isReady = false
      ∧ (∀ n : SlotId, [(1 : SlotId), 1].count n ≤ (s.slot n).pins)
      ∧ (let x := { sealed 1 [timed 1] 1 with orphan := true }
         ((s.setSeq 4 x).seq 4).orphan = true ∧ ((s.setSeq 4 x).seq 4).uses = 1)
      ∧ ((s.setSeq 4 (sealed 1 [timed 1] 1)).seq 4).orphan = false := by
  refine ⟨by decide +kernel, by decide +kernel, fun n => ?_, by decide +kernel, by decide +kernel⟩
  by_cases h : n = 1
  · subst h; decide +kernel
  · simp [Ne.symm h]

theorem witness_SessionEndAtThePlaneStore :
    let s : State := { live with announcements := [ends .loader, ends .store] }
    s.announcements = [ends .loader] ++ ends .store :: []
      ∧ ∀ y ∈ [ends .loader], ¬ (y.block = .store ∧ y.port = 1) := by decide +kernel

theorem witness_CreateSequence :
    let s := live.setSeq 0 (opened 2 [])
    Asked (asks s 1 .createSequence (.atBlock .table) (31 :: le2 0)) 1 .createSequence (.atBlock .table) (31 :: le2 0)
      ∧ Asked (asks s 1 .createSequence (.atBlock .table) (0xFF :: le2 65535)) 1 .createSequence (.atBlock .table)
        (0xFF :: le2 65535)
      ∧ (s.seq 31).state = .empty ∧ (s.seq 1).state = .empty ∧ ∀ m : SeqId, m < 1 → (s.seq m).state ≠ .empty :=
  ⟨asked_of (by decide +kernel), asked_of (by decide +kernel), by decide +kernel, by decide +kernel, by decide +kernel⟩

/-- The refusals: the numbers 32 and 254, a sequence in use, and FFh with all 32 in use. -/
theorem witness_CreateSequence_refused :
    let all : State := { live with seqs := Vector.replicate 32 (opened 2 []) }
    (∀ x ∈ [(32 : Byte), 254, 31, 0xFF],
        asked? (asks all 1 .createSequence (.atBlock .table) (x :: le2 1)) 1 .createSequence (.atBlock .table)
          (x :: le2 1) = true)
      ∧ ∀ n : SeqId, (all.seq n).state ≠ .empty := by
  refine ⟨by decide +kernel, fun n => ?_⟩
  simp [State.seq, opened]

/-- A batch that takes the last record and makes the sequence full. -/
theorem witness_AppendSteps :
    let u := ((live.setSlot 1 (ready 1 254)).setSeq 4 (opened 1 (List.replicate 254 (timed 1))))
    let s := { u with poolFree := 1 }
    let body := [BitVec.ofNat 8 4, BitVec.ofNat 8 1] ++ ([timed 1].map stepRecord).flatten
    Asked (asks s 1 .appendSteps (.atBlock .table) body) 1 .appendSteps (.atBlock .table) body
      ∧ (s.seq 4).owner = some 1 ∧ (s.seq 4).state = .opened ∧ (s.slot (timed 1).slot).isReady = true
      ∧ (s.seq 4).steps.length + 1 ≤ 255 ∧ 1 ≤ s.poolFree :=
  ⟨asked_of (by decide +kernel), by decide +kernel, by decide +kernel, by decide +kernel, by decide +kernel,
    by decide +kernel⟩

/-- The refusals: a sealed sequence, one of 255 steps, an empty pool, a slot that is not READY, and a record with each bad
field, at its first bad value, behind a good one. -/
theorem witness_AppendSteps_refused :
    let base := live.setSlot 1 (ready 1 0)
    let s (x : Sequence) (pool : Nat) : State := { base.setSeq 4 x with poolFree := pool }
    let body (records : List Byte) := [BitVec.ofNat 8 4, BitVec.ofNat 8 2] ++ records
    let two := ([timed 1, timed 2].map stepRecord).flatten
    let bad := fun (slot hold : Nat) (advance mask : Byte) =>
      stepRecord (timed 1) ++ (le2 slot ++ le2 hold ++ le2 0 ++ [advance, mask])
    (∀ u ∈ [s (sealed 1 [timed 1] 0) 2, s (opened 1 (List.replicate 254 (timed 1))) 2, s (opened 1 []) 1,
          s (opened 1 []) 2],
        (u.seq 4).owner = some 1
          ∧ asked? (asks u 1 .appendSteps (.atBlock .table) (body two)) 1 .appendSteps (.atBlock .table) (body two) = true)
      ∧ (∀ records ∈ [bad 448 1 0 0, bad 1 0 0 0, bad 1 1 4 0, bad 1 1 0 16],
        asked? (asks (s (opened 1 []) 2) 1 .appendSteps (.atBlock .table) (body records)) 1 .appendSteps (.atBlock .table)
          (body records) = true)
      ∧ (base.slot 1).isReady = true ∧ (base.slot 2).isReady = false := by decide +kernel

theorem witness_RemovedSteps :
    let s := (live.setSlot 1 (ready 1 1)).setSeq 4 (opened 1 [timed 1])
    let u := live.setSeq 4 (sealed 1 [timed 1] 1)
    Asked (asks s 1 .removeSteps (.atBlock .table) [4, 1]) 1 .removeSteps (.atBlock .table) [4, 1]
      ∧ Asked (asks s 1 .deleteSequence (.atBlock .table) [4]) 1 .deleteSequence (.atBlock .table) [4]
      ∧ Asked (asks u 1 .deleteSequence (.atBlock .table) [4]) 1 .deleteSequence (.atBlock .table) [4]
      ∧ (s.seq 4).owner = some 1 ∧ (s.seq 4).state = .opened ∧ 1 ≤ (s.seq 4).steps.length
      ∧ (u.seq 4).owner = some 1 ∧ (u.seq 4).state = .sealed ∧ 0 < (u.seq 4).uses :=
  ⟨asked_of (by decide +kernel), asked_of (by decide +kernel), asked_of (by decide +kernel), by decide +kernel,
    by decide +kernel, by decide +kernel, by decide +kernel, by decide +kernel, by decide +kernel⟩

theorem witness_RepeatSealAndUnseal :
    let s := live.setSeq 4 (opened 1 [timed 1])
    let u := live.setSeq 4 (sealed 1 [timed 1] 0)
    (∀ body ∈ [[], [(32 : Byte)], [4]],
        asked? (asks s 1 .sealSequence (.atBlock .table) body) 1 .sealSequence (.atBlock .table) body = true)
      ∧ asked? (asks s 1 .setRepeat (.atBlock .table) (4 :: le2 65535)) 1 .setRepeat (.atBlock .table)
        (4 :: le2 65535) = true
      ∧ asked? (asks u 1 .unsealSequence (.atBlock .table) [4]) 1 .unsealSequence (.atBlock .table) [4] = true
      ∧ (s.seq 4).owner = some 1 ∧ (u.seq 4).owner = some 1 ∧ (live.seq 4).owner ≠ some 1 := by decide +kernel

theorem witness_SessionEndAtTheSequenceTable :
    let s : State := { live with announcements := [ends .loader, ends .table] }
    s.announcements = [ends .loader] ++ ends .table :: []
      ∧ ∀ y ∈ [ends .loader], ¬ (y.block = .table ∧ y.port = 1) := by decide +kernel

/-- An entry between one of its own level and one of the level below. -/
theorem witness_EntriesJoin :
    let before := [entry 3 2 .direct]
    let after := [entry 2 3 .direct]
    let s := { live.setSeq 4 (sealed 1 [timed 1] 0) with queue := before ++ after }
    let body := [BitVec.ofNat 8 4, BitVec.ofNat 8 3] ++ tagBytes 100 ++ le2 0
    Asked (asks s 1 .submit (.atBlock .queue) body) 1 .submit (.atBlock .queue) body
      ∧ Asked (asks s 1 .requestDirect (.atBlock .queue) [3]) 1 .requestDirect (.atBlock .queue) [3]
      ∧ s.queue = before ++ after ∧ s.queue.length < 16
      ∧ (∀ e ∈ before, 3 ≤ e.level) ∧ (∀ e ∈ after, e.level < 3)
      ∧ (∀ e ∈ s.queue, ∀ m o, e.ask = .play 100 m o → e.port ≠ 1)
      ∧ (∀ c ∈ s.player.out.contexts ++ s.player.stack, c.port = some 1 → c.tag ≠ 100)
      ∧ (s.seq 4).state = .sealed ∧ (∀ e ∈ s.queue, e.ask = .direct → e.port ≠ 1)
      ∧ (∀ d, s.player.out.directParty = some d → d.1 ≠ 1) := by
  refine ⟨asked_of (by decide +kernel), asked_of (by decide +kernel), rfl, by decide +kernel, by decide +kernel,
    by decide +kernel, ?_, by decide +kernel, by decide +kernel, by decide +kernel, ?_⟩
  · intro e he m o h
    simp [entry] at he
    rcases he with rfl | rfl <;> cases h
  · intro d h
    cases h

/-- The refusals of SUBMIT and REQUEST_DIRECT: bad numbers and levels, level 7, the tag FFFFh, a tag in use, a full queue, an
OPEN sequence, and a port with a direct entry or an offer. -/
theorem witness_EntriesJoin_refused :
    let s := live.setSeq 4 (sealed 1 [timed 1] 1)
    let full : State := { s with queue := List.replicate 16 (entry 3 2 (.play 1 4 0)) }
    let used : State := { s with queue := [entry 3 1 (.play 100 4 0), entry 2 1 .direct] }
    let offering : State :=
      { s with player := { s.player with out := .offering 5 { port := 1, level := 3, window := some 50000 } } }
    (∀ x ∈ [(s, (32 : Byte), (3 : Byte), (100 : Word16)), (s, 4, 0, 100), (s, 4, 8, 100), (s, 4, 7, 100), (s, 4, 3, 0xFFFF),
          (used, 4, 3, 100), (running .hold, 4, 3, 100), (full, 4, 3, 100), (live, 4, 3, 100)],
        let body := [x.2.1, x.2.2.1] ++ tagBytes x.2.2.2 ++ le2 0
        asked? (asks x.1 1 .submit (.atBlock .queue) body) 1 .submit (.atBlock .queue) body = true)
      ∧ (s.port 1).cls ≠ .control ∧ full.queue.length = 16 ∧ (live.seq 4).state ≠ .sealed
      ∧ used.queue.head? = some (entry 3 1 (.play 100 4 0))
      ∧ (running .hold).player.out = .running 5 (context (some .hold)) ∧ (context (some .hold)).tag = 100
      ∧ (∀ x ∈ [(s, (0 : Byte)), (s, 7), (used, 3), (offering, 3), (full, 3)],
        asked? (asks x.1 1 .requestDirect (.atBlock .queue) [x.2]) 1 .requestDirect (.atBlock .queue) [x.2] = true)
      ∧ entry 2 1 .direct ∈ used.queue ∧ offering.player.out.directParty.map Prod.fst = some 1 := by decide +kernel

theorem witness_EntriesLeave :
    let e := entry 3 1 (.play 100 4 0)
    let s := { live with queue := [entry 4 2 .direct, e] }
    (∀ p ∈ [(0 : PortId), 1],
        asked? (asks s p .cancel (.atBlock .queue) (portByte 1 ++ tagBytes 100)) p .cancel (.atBlock .queue)
          (portByte 1 ++ tagBytes 100) = true)
      ∧ asked? (asks live 1 .cancel (.atBlock .queue) (portByte 1 ++ tagBytes 100)) 1 .cancel (.atBlock .queue)
          (portByte 1 ++ tagBytes 100) = true
      ∧ s.queue = [entry 4 2 .direct] ++ e :: [] ∧ live.queue = []
      ∧ asked? (asks live 0 .cancel (.atBlock .queue) (portByte 1 ++ [0xFF, 0xFF])) 0 .cancel (.atBlock .queue)
          (portByte 1 ++ [0xFF, 0xFF]) = true
      ∧ (live.port 0).cls = .control
      ∧ ({ live with announcements := [ends .queue] } : State).announcements = [] ++ ends .queue :: [] := by
  decide +kernel

/-! ### The player -/

theorem witness_Selection :
    let e := entry 3 1 (.play 100 4 0)
    let top : Context := { context none with level := some 2 }
    let base : State := { live with selects := 1 }
    0 < base.selects ∧ base.player.linkUp = true ∧ base.player.out = .idle
      ∧ ({ base with queue := [e] } : State).queue = e :: []
      ∧ ({ base with queue := [entry 3 1 .direct] } : State).queue = entry 3 1 .direct :: []
      ∧ base.player.holdLevel < 3 ∧ (base.port 1).sessionOpen = true ∧ top.level.getD 0 < 3 ∧ top.port = some 1
      ∧ (∀ x, ({ base with queue := [entry 2 1 .direct] } : State).queue.head? = some x → x.level ≤ top.level.getD 0)
      ∧ base.player.stack = [] ∧ base.queue = []
      ∧ ((base.setPort 1 { base.port 1 with sessionOpen := false }).port 1).sessionOpen = false := by
  refine ⟨by decide, rfl, rfl, rfl, rfl, by decide, by decide +kernel, by decide, rfl, ?_, rfl, rfl, by decide +kernel⟩
  intro x hx
  cases hx
  decide

theorem witness_Preemption :
    let s (phase : Phase) (level : Nat) : State :=
      { running phase with selects := 1, queue := [entry level 0 (.play 1 4 0)] }
    (∀ x ∈ [(Phase.hold, 7), (.gap, 7), (.staging, 4), (.waiting, 6), (.hold, 6), (.waiting, 3)],
      let u := s x.1 x.2
      0 < u.selects ∧ u.player.linkUp = true ∧ u.player.out = .running 5 (context (some x.1))
        ∧ (context (some x.1)).level = some 3 ∧ u.queue = entry x.2 0 (.play 1 4 0) :: []
        ∧ (x.2 = 7 ∨ u.player.holdLevel < x.2))
      ∧ (∀ x ∈ [(Phase.staging, 4), (.hold, 6), (.waiting, 3)],
        let u : State := { running x.1 with selects := 1, queue := [entry x.2 2 .direct] }
        u.player.out = .running 5 (context (some x.1)) ∧ u.queue = entry x.2 2 .direct :: []
          ∧ u.player.holdLevel < x.2 ∧ (u.port 2).sessionOpen = true)
      ∧ ({ live with selects := 1, player := { live.player with linkUp := false } } : State).player.linkUp = false
      ∧ ({ live with selects := 1, player := { live.player with out := .halted } } : State).player.out = .halted := by
  decide +kernel

theorem witness_ClearHalt :
    let halted : State := { live with player := { live.player with out := .halted } }
    (∀ p ∈ [(0 : PortId), 1], ∀ body ∈ [[], [(0 : Byte)]],
        asked? (asks halted p .clearHalt (.atBlock .player) body) p .clearHalt (.atBlock .player) body = true)
      ∧ asked? (asks live 0 .clearHalt (.atBlock .player) []) 0 .clearHalt (.atBlock .player) [] = true
      ∧ (live.port 0).cls = .control ∧ (live.port 1).cls = .ordinary ∧ halted.player.out = .halted
      ∧ live.player.out ≠ .halted := by decide +kernel

theorem witness_HoldLevelAndDesignation :
    let s := live.setSeq 4 (sealed 1 [timed 1] 0)
    let u : State := { s with player := { s.player with designated := some 4 } }
    (∀ h ∈ [(0 : Byte), 6, 7],
        asked? (asks s 0 .setHoldLevel (.atBlock .player) [h]) 0 .setHoldLevel (.atBlock .player) [h] = true)
      ∧ (∀ n ∈ [(4 : Byte), 5, 0xFF],
        asked? (asks s 0 .setFallback (.atBlock .player) [n]) 0 .setFallback (.atBlock .player) [n] = true)
      ∧ asked? (asks u 0 .setFallback (.atBlock .player) [4]) 0 .setFallback (.atBlock .player) [4] = true
      ∧ (s.port 0).cls = .control ∧ u.player.designated = some 4 ∧ s.player.designated ≠ some 4
      ∧ (s.seq 4).state = .sealed ∧ (s.seq 5).state ≠ .sealed
      ∧ (shows State.resetLow (exec .startToken live)).isSome = true := by decide +kernel

theorem witness_ResetPlayer :
    Asked (asks (running .hold) 0 .resetPlayer (.atBlock .player) []) 0 .resetPlayer (.atBlock .player) []
      ∧ ((running .hold).port 0).cls = .control ∧ (running .hold).link.state = .idle
      ∧ (State.link { live with link := { live.link with state := .failed } }).state = .failed :=
  ⟨asked_of (by decide +kernel), by decide +kernel, by decide +kernel, rfl⟩

theorem witness_CancelAtThePlayer :
    let body := portByte 1 ++ tagBytes 100
    let suspended : State :=
      { live with player := { live.player with stack := [{ context none with level := some 2 }], linkUp := false } }
    let falling : State := { live with player := { live.player with out := .fallback 5 { context none with port := none } } }
    asked? (asks (running .hold) 0 .cancel .passedCancel body) 0 .cancel .passedCancel body = true
      ∧ (running .hold).player.out = .running 5 (context (some .hold))
      ∧ asked? (asks suspended 0 .cancel .passedCancel body) 0 .cancel .passedCancel body = true
      ∧ suspended.player.stack = [] ++ { context none with level := some 2 } :: []
      ∧ suspended.player.out = .idle ∧ suspended.player.linkUp = false
      ∧ asked? (asks { live with player := { live.player with linkUp := false } } 0 .cancel .passedCancel body) 0 .cancel
        .passedCancel body = true
      ∧ asked? (asks falling 0 .cancel .passedFallback body) 0 .cancel .passedFallback body = true
      ∧ falling.player.out = .fallback 5 { context none with port := none }
      ∧ asked? (asks live 0 .cancel .passedFallback body) 0 .cancel .passedFallback body = true
      ∧ live.player.out = .idle := by decide +kernel

/-- The identity of a step of the running context, at a stage. -/
def identity (idx : Nat) (slot : SlotId) (stage : Stage) : Identity :=
  { holder := { who := .context 1 100, number := 5 }, idx := idx, slot := slot, verify := false, stage := stage }

/-- The part with sequence 4 of one step that waits on A, staged and LOADED. -/
def triggered (phase : Phase) (pending : Bool) : State :=
  let s := (running phase).setSeq 4 (sealed 1 [{ timed 1 with advance := .triggerA }] 1)
  { s with
    link := { s.link with identity := some (identity 0 1 .loaded) }
    trig := { s.trig with latchA := { pending := pending, overrun := false } } }

theorem witness_StagedSteps :
    let s : State :=
      { running .staging with
        link := { live.link with identity := some (identity 0 1 .loaded) }, fromLink := [.loaded 5 0] }
    s.player.out.context? = some (5, context (some .staging)) ∧ (s.seq 4).steps[0]? = some (timed 1)
      ∧ s.link.state = .idle ∧ s.link.identity = some (identity 0 1 .loaded) ∧ s.fromLink = .loaded 5 0 :: []
      ∧ (timed 1).advance = .timed ∧ s.queue = []
      ∧ (triggered .staging true).player.out.context? = some (5, context (some .staging))
      ∧ ((triggered .staging true).seq 4).steps[0]? = some { timed 1 with advance := .triggerA }
      ∧ (Advance.triggerA).source = some .a
      ∧ ((triggered .staging true).trig.latch .a).pending = true
      ∧ ((triggered .staging false).trig.latch .a).pending = false ∧ (triggered .staging false).queue = []
      ∧ (State.fromTrig { triggered .waiting false with fromTrig := [.consumption 5] }) = .consumption 5 :: []
      ∧ (triggered .waiting false).player.out.context? = some (5, context (some .waiting))
      ∧ (State.fromLink { s with fromLink := [.loaded 4 0] }) = .loaded 4 0 :: [] := by decide +kernel

theorem witness_SwappedStep :
    let s : State := { running .hold with fromLink := [.swapped 5 0] }
    s.player.out.context? = some (5, context (some .hold)) ∧ (s.seq 4).steps[0]? = some (timed 1)
      ∧ s.player.holdTimer = none ∧ s.fromLink = .swapped 5 0 :: []
      ∧ (context (some .hold)).ahead (s.seq 4).steps.length = some 1 ∧ (s.seq 4).steps[1]? = some (timed 2)
      ∧ s.link.state = .idle ∧ s.link.pendingBlank = false
      ∧ (context (some .hold)).ahead ((s.setSeq 4 (sealed 1 [timed 1] 1)).seq 4).steps.length = none := by decide +kernel

theorem witness_HoldsAndGaps :
    let s : State := { running .hold with player := { (running .hold).player with holdTimer := some 5000 } }
    let zero : State :=
      { s.setSeq 4 (sealed 1 [{ timed 1 with gap := 0 }, timed 2] 1) with
        link := { s.link with identity := some (identity 1 2 .loaded) } }
    let u : State :=
      { running .gap with
        player := { (running .gap).player with gapTimer := some 0 }
        link := { s.link with identity := some (identity 1 2 .pending) } }
    let last : State := u.setSeq 4 (sealed 1 [timed 1] 1)
    s.player.out.context? = some (5, context (some .hold)) ∧ (s.seq 4).steps[0]? = some (timed 1)
      ∧ s.player.holdTimer = some 5000 ∧ (timed 1).gap ≠ 0
      ∧ zero.player.out.context? = some (5, context (some .hold)) ∧ zero.player.holdTimer = some 5000
      ∧ (zero.seq 4).steps[0]? = some { timed 1 with gap := 0 } ∧ (zero.seq 4).steps[1]? = some (timed 2)
      ∧ (context (some .hold)).next (zero.seq 4).steps.length = some (1, .count 0) ∧ zero.queue = []
      ∧ zero.link.state = .idle ∧ zero.link.identity = some (identity 1 2 .loaded)
      ∧ u.player.out = .running 5 (context (some .gap)) ∧ u.player.gapTimer = some 0
      ∧ (context (some .gap)).next (u.seq 4).steps.length = some (1, .count 0)
      ∧ u.link.identity = some (identity 1 2 .pending) ∧ u.queue = []
      ∧ last.player.out = .running 5 (context (some .gap))
      ∧ (context (some .gap)).next (last.seq 4).steps.length = none := by decide +kernel

/-- The end of a gap on time, for a TIMED step and for one that waits on A, with its latch set and clear; and with a higher
head. -/
theorem witness_HoldsAndGaps_onTime :
    let c := context (some .gap)
    let s (advance : Advance) (pending : Bool) : State :=
      let u := (running .gap).setSeq 4 (sealed 1 [timed 1, { timed 2 with advance := advance }] 1)
      { u with
        player := { u.player with gapTimer := some 9 }, link := { u.link with identity := some (identity 1 2 .loaded) }
        trig := { u.trig with latchA := { pending := pending, overrun := false } } }
    let higher : State := { s .timed false with queue := [entry 4 0 (.play 1 4 0)] }
    (∀ x ∈ [(Advance.timed, false), (.triggerA, true), (.triggerA, false)],
      let u := s x.1 x.2
      u.player.out.context? = some (5, c) ∧ u.player.gapTimer = some 9 ∧ u.queue = []
        ∧ c.next (u.seq 4).steps.length = some (1, .count 0) ∧ u.link.identity = some (identity 1 2 .loaded)
        ∧ u.link.state = .idle ∧ (u.seq 4).steps[1]? = some { timed 2 with advance := x.1 }
        ∧ (u.trig.latch .a).pending = x.2)
      ∧ (Advance.triggerA).source = some .a
      ∧ higher.player.out = .running 5 c ∧ 5 ≤ higher.player.lastNumber ∧ higher.player.linkUp = true
      ∧ c.level = some 3 ∧ higher.queue = entry 4 0 (.play 1 4 0) :: [] ∧ higher.player.holdLevel < 4 := by decide +kernel

theorem witness_FaultsAndReports :
    let f : RaisedFault := { kind := .planeCheck, number := 5, item := some (0, 1), reason := none }
    let on (out : Output) : State := { live with player := { live.player with out := out } }
    let d : Direct := { port := 2, level := 3, shows := [], timer := none }
    (on .idle).player.out.number? ≠ some f.number
      ∧ (State.fromLink { on .idle with fromLink := [.fault f] }) = .fault f :: []
      ∧ (State.fromTrig { on .idle with fromTrig := [.fault f] }) = .fault f :: []
      ∧ (State.fromLights { on .idle with fromLights := [f] }) = f :: []
      ∧ (on (.running 5 (context (some .hold)))).player.out = .running f.number (context (some .hold))
      ∧ (on (.direct 5 d)).player.out = .direct f.number d
      ∧ (on (.offering 5 { port := 2, level := 3, window := none })).player.out
        = .offering f.number { port := 2, level := 3, window := none }
      ∧ (∀ state ∈ [LinkState.idle, .awaitSwapped],
        (State.link { on (.fallback 5 (context none)) with link := { live.link with state := state } }).state = state)
      ∧ ((live.setSeq 4 (sealed 1 [timed 1] 1)).seq 4).state = .sealed
      ∧ ((live.setSeq 4 (sealed 1 [timed 1] 1)).seq 4).steps[0]? = some (timed 1)
      ∧ (State.fromLink { on .idle with fromLink := [.report false (.named f)] }) = .report false (.named f) :: []
      ∧ (on .idle).player.out = .idle ∧ (on .halted).player.out = .halted
      ∧ (on (.running 5 (context (some .hold)))).player.out.number? = some 5
      ∧ (on (.fallback 5 (context none))).player.out = .fallback f.number (context none)
      ∧ (State.fromLink { on .idle with fromLink := [.report true .none] }) = .report true .none :: []
      ∧ (State.fromLink { on .idle with fromLink := [.report false .presentHolder] })
        = .report false .presentHolder :: [] := by decide +kernel

/-! ### Direct mode -/

/-- Port 2 holds direct mode at level 3 under number 5, with the shows given. -/
def holding (shows : List Show) (timer : Option Nat) : State :=
  { live with player := { live.player with out := .direct 5 { port := 2, level := 3, shows := shows, timer := timer } } }

/-- Port 2 is offered direct mode at level 3 under number 5. -/
def offered : State :=
  { live with player := { live.player with out := .offering 5 { port := 2, level := 3, window := some 50000 } } }

theorem witness_OffersAndHoldings :
    let e := entry 3 2 .direct
    (∀ s ∈ [offered, holding [] none, live, { live with queue := [e] }],
        asked? (asks s 2 .acceptDirect (.atBlock .player) []) 2 .acceptDirect (.atBlock .player) [] = true
          ∧ asked? (asks s 2 .releaseDirect (.atBlock .player) []) 2 .releaseDirect (.atBlock .player) [] = true)
      ∧ offered.player.out = .offering 5 { port := 2, level := 3, window := some 50000 } ∧ offered.queue = []
      ∧ (holding [] none).player.out = .direct 5 { port := 2, level := 3, shows := [], timer := none }
      ∧ ({ live with queue := [e] } : State).queue = [] ++ e :: []
      ∧ ({ offered with announcements := [{ block := .player, port := 2, session := 1 }] } : State).announcements
        = [] ++ { block := .player, port := 2, session := 1 } :: []
      ∧ live.player.out.directParty.map Prod.fst ≠ some 2 := by decide +kernel

/-- Heads above and at the level of an offer and of a holding, whose head show is on display or still waited for. -/
theorem witness_OffersAndHoldings_selection :
    let aShow (stage : ShowStage) : Show := { number := 9, slot := 1, hold := 1, mask := 3, verify := true, stage := stage }
    let asked (s : State) (level : Nat) : State := { s with selects := 1, queue := [entry level 0 (.play 1 4 0)] }
    (∀ level ∈ [3, 4, 7],
        let u := asked offered level
        0 < u.selects ∧ u.player.linkUp = true ∧ u.queue = entry level 0 (.play 1 4 0) :: []
          ∧ (level = 7 ∨ u.player.holdLevel < level)
          ∧ u.player.out = .offering 5 { port := 2, level := 3, window := some 50000 })
      ∧ (∀ x ∈ [(3, []), (4, []), (4, [aShow .staging]), (4, [aShow .hold]), (7, [aShow .swapping])],
        let u := asked (holding x.2 none) x.1
        u.player.out = .direct 5 { port := 2, level := 3, shows := x.2, timer := none }
          ∧ u.queue = entry x.1 0 (.play 1 4 0) :: [] ∧ (x.1 = 7 ∨ u.player.holdLevel < x.1)) := by decide +kernel

/-- A show of slot 1 at a stage. -/
def aShow (number : Byte) (stage : ShowStage) : Show :=
  { number := number, slot := 1, hold := 65535, mask := 3, verify := true, stage := stage }

theorem witness_Shows :
    let body := [(9 : Byte)] ++ slotBytes 1 ++ le2 65535 ++ [BitVec.ofNat 8 (3 : Mask).toNat, 1]
    let s (shows : List Show) (tm : Option Nat) := (holding shows tm).setSlot 1 (ready 1 0)
    (∀ shows ∈ [[], [aShow 8 .staging], [aShow 8 .hold]],
        asked? (asks (s shows none) 2 .showPlane (.atBlock .player) body) 2 .showPlane (.atBlock .player) body = true
          ∧ (s shows none).player.out = .direct 5 { port := 2, level := 3, shows := shows, timer := none })
      ∧ (∃ t, pinRaise [1] (s [aShow 8 .hold] none) = .ok t)
      ∧ (State.fromLink { s [aShow 9 .staging] none with fromLink := [.loaded 5 9] }) = .loaded 5 9 :: []
      ∧ (State.fromLink { s [aShow 9 .swapping] none with fromLink := [.swapped 5 9] }) = .swapped 5 9 :: []
      ∧ (∀ y ∈ [aShow 10 .loaded], y.number ≠ 9 ∧ y.stage ≠ .waiting)
      ∧ (State.player { s [aShow 9 .swapping, aShow 10 .waiting] none with fromLink := [.swapped 5 9] }).out.shows
        = [aShow 9 .swapping, aShow 10 .waiting]
      ∧ (aShow 10 .waiting).stage = .waiting
      ∧ (s [aShow 9 .hold, aShow 10 .loaded] (some 7)).player.out =
        .direct 5 { port := 2, level := 3, shows := [aShow 9 .hold, aShow 10 .loaded], timer := some 7 }
      ∧ (s [aShow 9 .hold] (some 7)).queue = [] :=
  ⟨by decide +kernel, ok_of (by decide +kernel), by decide +kernel, by decide +kernel, by decide +kernel,
    by decide +kernel, by decide +kernel, by decide +kernel, by decide +kernel⟩

/-! ### Triggers, link and lights -/

theorem witness_ConfigureTriggers :
    (∀ body ∈ [[], [1, 1, 0, 1, 0xFF, 0xFF], [2, 0, 0, 0, 0, 0]], ∀ p ∈ [(0 : PortId), 1],
        asked? (asks live p .configureTriggers (.atBlock .trigger) body) p .configureTriggers (.atBlock .trigger) body
          = true)
      ∧ (live.port 0).cls = .control ∧ (live.port 1).cls = .ordinary := by decide +kernel

theorem witness_Triggers :
    let w : Wait := { source := .a, holder := { who := .context 1 100, number := 5 }, timeout := 1, timer := some 1000 }
    let s : State := { running .waiting with trig := { live.trig with wait := some w, sync := some 2 } }
    live.resetLow = false ∧ live.trig.levelA ≠ true ∧ live.trig.levelB ≠ true
      ∧ (∀ p ∈ [(0 : PortId), 1, 2],
        asked? (asks s p .trigger (.atBlock .trigger) []) p .trigger (.atBlock .trigger) [] = true)
      ∧ (s.port 0).cls = .control ∧ (context (some .waiting)).port = some 1 ∧ (s.port 2).cls = .ordinary
      ∧ s.player.out = .running 5 (context (some .waiting))
      ∧ s.trig.wait = some w ∧ w.timer = some 1000 ∧ s.trig.sync = some 2 := by decide +kernel

theorem witness_DriverReady :
    live.link.state ≠ .down ∧ live.resetLow = false
      ∧ (State.link { live with link := { live.link with state := .down } }).state = .down := by decide +kernel

theorem witness_LinkAnswers :
    let l (state : LinkState) (i : Option Identity) : Link :=
      { live.link with state := state, identity := i, timer := some 2000, msgSlot := some 1 }
    let i := identity 0 1 .sending
    live.link.ignore = false ∧ live.link.pendingBlank = false
      ∧ (l .transmitting (some i)).state = .transmitting ∧ (l .transmitting (some i)).identity = some i
      ∧ (l .awaitLoaded (some i)).state = .awaitLoaded ∧ (l .awaitLoaded (some i)).timer = some 2000
      ∧ (l .awaitSwapped (some (identity 0 1 .swapping))).msgSlot = some 1
      ∧ (l .awaitBlanked none).identity = none
      ∧ ({ l .awaitLoaded none with ignore := true } : Link).ignore = true
      ∧ ({ l .awaitLoaded (some i) with pendingBlank := true } : Link).pendingBlank = true
      ∧ (∀ m ∈ [Message.load 1, .swap, .blank], (State.link { live with link := { live.link with sent := some m } }).sent = some m)
      ∧ (7 : Byte) ≠ 0 ∧ live.link.state ≠ .awaitLoaded ∧ live.link.state ≠ .awaitSwapped
      ∧ live.link.state ≠ .awaitBlanked := by decide +kernel

theorem witness_LightLimits :
    let h : HolderRef := { who := .fallback, number := 5 }
    let s := live.setLight 2 { on := true, holder := some h, onTime := 300, limit := 4, trip := false }
    let body := le2 0 ++ le2 65535 ++ le2 3 ++ le2 1
    (s.light 2).on = true ∧ (s.light 2).limit ≠ 0 ∧ (s.light 2).holder = some h
      ∧ 3 * 100 ≤ (s.light 2).onTime ∧ ¬ 4 * 100 ≤ (s.light 2).onTime
      ∧ (∀ ch ∈ [(0 : ChannelId), 1, 3], (s.light ch).on = false)
      ∧ [(2 : ChannelId)].map (fun ch => (s.light ch).holder) = [h].map some
      ∧ (∀ p ∈ [(0 : PortId), 1],
        asked? (asks s p .configureLights (.atBlock .lights) body) p .configureLights (.atBlock .lights) body = true)
      ∧ (s.port 0).cls = .control ∧ (s.port 1).cls = .ordinary := by decide +kernel

/-! ### The library -/

/-- An entry of a RAW plane at the end of the flash. -/
def rawEntry : DirEntry :=
  { offset := 16711680, length := 65536, crc := 0, form := 0, label := [0, 0, 0] }

/-- A library of one entry, with the jobs given and the first of them running. -/
def loadingState (jobs : List Job) (taken : Nat) : State :=
  { live with
    lib := { live.lib with
      entries := [rawEntry], jobs := jobs
      run := if jobs = [] then none else some { entry := rawEntry, taken := taken, run := .header }
      burst := if jobs = [] then none else some { offset := 16711680 + taken, length := 256, timer := none } } }

theorem witness_Rescan :
    let job : Job := { slot := 12, entry := 0, port := 1 }
    (∀ s ∈ [live, loadingState [job] 0], ∀ body ∈ [[], [(0 : Byte)]], ∀ p ∈ [(0 : PortId), 1],
        asked? (asks s p .rescanLibrary (.atBlock .loader) body) p .rescanLibrary (.atBlock .loader) body = true)
      ∧ (live.port 0).cls = .control ∧ (live.port 1).cls = .ordinary ∧ live.lib.jobs = []
      ∧ (loadingState [job] 0).lib.jobs ≠ [] := by decide +kernel

theorem witness_PackedPlanes :
    (∀ n ∈ [1, 128], 1 ≤ (List.replicate n (7 : Byte)).length ∧ (List.replicate n (7 : Byte)).length ≤ 128)
      ∧ (∀ n ∈ [3, 130], 3 ≤ n ∧ n ≤ 130) ∧ (expandRuns [2, 7] .header 4 3).failed = false := by decide +kernel

theorem witness_LoadPlanes :
    let body := slotBytes 12 ++ le2 0
    let s := (loadingState [] 0).setSlot 12 (held 1)
    let u := (loadingState [{ slot := 11, entry := 0, port := 1 }] 0).setSlot 12 (ready 1 0)
    let others := [filling 1 16 0, loading 1 16 0, ready 1 1, held 2]
    asked? (asks s 1 .loadPlanes (.atBlock .loader) body) 1 .loadPlanes (.atBlock .loader) body = true
      ∧ asked? (asks u 1 .loadPlanes (.atBlock .loader) body) 1 .loadPlanes (.atBlock .loader) body = true
      ∧ s.lib.run = none ∧ s.lib.jobs = [] ∧ s.lib.entries[0]? = some rawEntry ∧ rawEntry.usable = true
      ∧ u.lib.run.isSome = true ∧ u.lib.jobs.length + 1 ≤ 8 ∧ s.lib.state = .valid ∧ u.lib.state = .valid
      ∧ (s.slot 12).owner = some 1 ∧ (s.slot 12).content = .held
      ∧ (u.slot 12).owner = some 1 ∧ (u.slot 12).isReady = true ∧ (u.slot 12).pins = 0
      ∧ (∀ x ∈ others,
        asked? (asks (s.setSlot 12 x) 1 .loadPlanes (.atBlock .loader) body) 1 .loadPlanes (.atBlock .loader) body = true)
    := by decide +kernel

theorem witness_LoadsAreCancelled :
    let job (n : SlotId) : Job := { slot := n, entry := 0, port := 1 }
    let s := ((loadingState [job 11, job 12] 0).setSlot 12 (loading 1 0 0)).setSlot 11 (loading 1 256 0)
    let body (n : SlotId) := slotBytes n
    (∀ n ∈ [(11 : SlotId), 12],
        asked? (asks s 1 .cancelLoad (.atBlock .loader) (body n)) 1 .cancelLoad (.atBlock .loader) (body n) = true
          ∧ (s.slot n).owner = some 1)
      ∧ (s.slot 12).content = .loading 0 0 ∧ (s.slot 11).content = .loading 256 0
      ∧ s.lib.jobs = [job 11] ++ job 12 :: [] ∧ s.lib.jobs = [] ++ job 11 :: [job 12] ∧ s.lib.run.isSome = true
      ∧ (State.announcements { s with announcements := [ends .loader] }) = [] ++ ends .loader :: []
      ∧ s.lib.jobs.head? = some (job 11) ∧ (job 11).port = 1
      ∧ ((loadingState [{ job 11 with port := 2 }, job 12] 0).lib.jobs.head?.map Job.port) = some 2 := by decide +kernel

/-- A header for one entry, the one table burst, a burst of a plane, its last burst, and a burst without an answer. -/
theorem witness_Bursts :
    let scanning (sc : Scan) (b : Burst) : State :=
      { live with lib := { live.lib with state := .scanning, scan := some sc, burst := some b } }
    let b10 : Burst := { offset := 0, length := 10, timer := none }
    let b16 : Burst := { offset := 10, length := 16, timer := none }
    let job : Job := { slot := 12, entry := 0, port := 1 }
    let s (k : Nat) := (loadingState [job] k).setSlot 12 (loading 1 k 0)
    (scanning { header := none, table := [] } b10).lib.burst = some b10
      ∧ (scanning { header := none, table := [] } b10).lib.scan = some { header := none, table := [] }
      ∧ (scanning { header := some (1, 0), table := [] } b16).lib.scan = some { header := some (1, 0), table := [] }
      ∧ (([] : List Byte) ++ List.replicate 16 0).length = 16 * 1
      ∧ (∀ k ∈ [0, 65280], (s k).lib.scan = none ∧ (s k).lib.jobs = [job]
        ∧ (s k).lib.run = some { entry := rawEntry, taken := k, run := .header }
        ∧ (s k).lib.burst = some { offset := 16711680 + k, length := 256, timer := none }
        ∧ (s k).slot 12 = loading 1 k 0)
      ∧ 0 + 256 < rawEntry.length ∧ 65280 + 256 = rawEntry.length ∧ rawEntry.form = 0
      ∧ ((scanning { header := none, table := [] } { b10 with timer := some 1000 }).lib.burst.bind Burst.timer)
        = some 1000 := by decide +kernel

/-- A table burst before the last; and a burst of a PACKED plane that goes on, that passes the end of the plane, and that is
its last. -/
theorem witness_Bursts_packed :
    let b : Burst := { offset := 10, length := 256, timer := none }
    let s : State :=
      { live with lib := { live.lib with state := .scanning, scan := some { header := some (17, 0), table := [] }, burst := some b } }
    let r : JobRun := { entry := { rawEntry with length := 4, form := 1 }, taken := 0, run := .header }
    s.lib.burst = some b ∧ s.lib.scan = some { header := some (17, 0), table := [] }
      ∧ (List.replicate 256 (0 : Byte)).length = b.length ∧ ([] ++ List.replicate 256 (0 : Byte)).length < 16 * 17
      ∧ ((loadingState [{ slot := 12, entry := 0, port := 1 }] 0).setSlot 12 (loading 1 65533 0)).slot 12 = loading 1 65533 0
      ∧ (expandRuns [0x80] r.run (r.entry.length - r.taken) (65536 - 65533)).failed = false
      ∧ r.taken + [(0x80 : Byte)].length < r.entry.length
      ∧ (expandRuns [0x81, 5] r.run (r.entry.length - r.taken) (65536 - 65533)).failed = true
      ∧ (expandRuns [0, 5, 0, 6] r.run (r.entry.length - r.taken) (65536 - 65533)).failed = false
      ∧ r.entry.length ≤ r.taken + [(0 : Byte), 5, 0, 6].length := by decide +kernel

/-- The bodies of the reporting requests, at the ends of the ranges. -/
theorem witness_Reports :
    (∀ x ∈ [(Command.slotStatus, Block.store, le2 384 ++ [64]), (.libraryStatus, .loader, []),
          (.libraryEntry, .loader, le2 0), (.libraryEntry, .loader, []), (.sequenceStatus, .table, [0, 32]),
          (.readSteps, .table, []), (.readSteps, .table, [32, 0, 1]), (.readSteps, .table, [4, 0, 2]),
          (.readSteps, .table, [4, 1, 2]), (.readSteps, .table, [5, 0, 1]), (.queueStatus, .queue, []),
          (.playerStatus, .player, []), (.triggerStatus, .trigger, []), (.linkStatus, .link, [])],
        asked? (asks (running .hold) 1 x.1 (.atBlock x.2.1) x.2.2) 1 x.1 (.atBlock x.2.1) x.2.2 = true)
      ∧ (running .hold).lib.state = .valid ∧ (loadingState [] 0).lib.entries[0]? = some rawEntry
      ∧ (State.lib { live with lib := Loader.afterReset }).state ≠ .valid
      ∧ ((running .hold).seq 4).state ≠ .empty ∧ ((running .hold).seq 4).steps.length = 2
      ∧ ((running .hold).seq 5).state = .empty := by decide +kernel

/-! ### The invariants -/

/-- A part right after reset, whose release is waiting: it meets the invariants, and its step answers a next state. -/
def releasing : State := { State.reset with pending := [.resetRelease 1 true false false] }

theorem test_releasing_steps : (shows State.resetLow (step releasing)) = some false := by decide +kernel

theorem witness_MemoryCanonical : MemoryCanonical releasing := by decide +kernel

theorem witness_LinkConsistent : LinkConsistent releasing := by decide +kernel

theorem witness_LoaderConsistent : LoaderConsistent releasing := by decide +kernel

theorem witness_UsesCounted : UsesCounted releasing := ⟨trivial, by decide +kernel⟩

theorem witness_LatchesConsistent : LatchesConsistent releasing :=
  ⟨trivial, by decide +kernel, by decide +kernel, by decide +kernel⟩

theorem witness_LightsInHold : LightsInHold releasing := ⟨by decide +kernel, trivial⟩

theorem witness_LevelsOrdered : LevelsOrdered releasing := by
  have hq : releasing.queue = [] := rfl
  have hk : releasing.player.stack = [] := rfl
  exact ⟨by simp [hq], by simp [hq], by simp [hq], ⟨by simp [hk], by simp [hk], trivial⟩, trivial⟩

theorem witness_PortsAccounted : PortsAccounted releasing := by
  have h : ∀ p, releasing.port p = Port.afterReset .ordinary false := by decide +kernel
  intro p
  rw [h p]
  exact ⟨by decide +kernel, by decide +kernel, by decide +kernel, by decide +kernel, by decide +kernel, trivial⟩

theorem witness_PoolBalanced : PoolBalanced releasing := by
  have h : ∀ q, releasing.seq q = Sequence.empty := by decide +kernel
  refine ⟨by decide +kernel, fun q => ?_⟩
  rw [h q]
  exact rfl

theorem witness_PinsCounted : PinsCounted releasing := by
  have h : ∀ q, releasing.seq q = Sequence.empty := by decide +kernel
  have hs : ∀ n, releasing.slot n = Slot.free := fun n => by simp [State.slot, releasing, State.reset]
  have ho : releasing.player.out.shows = [] := rfl
  have hr : ∀ n, slotReferences releasing n = 0 := fun n => by simp [slotReferences, h, ho, Sequence.empty]
  have hf : SlotOk Slot.free ∧ Slot.free.pins = 0 := ⟨rfl, rfl⟩
  refine ⟨fun n => ?_, fun q _ => by rw [h q]; rfl⟩
  rw [hs n, hr n]
  exact hf

end Sys2Proof.Tests
end

/-! PROOF. The requests that end a fill or give a slot back: what ABANDON_FILL (R9) and FREE_SLOT (R10) answer, and what they
leave of the plane store, for each state of a slot of the requester. -/

namespace Sys2Proof.Machine

/-! ## Owner-only requests (R3) -/

/-- An owner-only request whose body is the number of a slot of the requester passes the checks of R3 and acts on that slot. -/
theorem ofLength_ownedSlot_of_owner {s : State} {p : PortId} {n : SlotId} (hown : (s.slot n).owner = some p)
    (act : SlotId → State → State × Answer) :
    ofLength 2 (fun body => ownedSlot p (field2 body 0) act) (slotBytes n) s = act n s := by
  have hlen : (slotBytes n).length = 2 := rfl
  have hnum : field2 (slotBytes n) 0 = n.val := by simpa using field2_slotBytes n []
  simp [ofLength, ownedSlot, hlen, hnum, hown]

section
variable {s : State} {p : PortId} {n : SlotId}

/-! ## ABANDON_FILL (R9) -/

theorem abandonFill_of_filling (hown : (s.slot n).owner = some p) {k : Nat} {c : Crc32}
    (hx : (s.slot n).content = .filling k c) :
    abandonFill p (slotBytes n) s = done [] (s.setSlot n ((s.slot n).heldWith .abandoned)) := by
  rw [abandonFill, ofLength_ownedSlot_of_owner hown]
  simp [hx]

theorem abandonFill_of_not_filling (hown : (s.slot n).owner = some p)
    (hx : ∀ k c, (s.slot n).content ≠ .filling k c) :
    abandonFill p (slotBytes n) s = refuse .wrongState s := by
  rw [abandonFill, ofLength_ownedSlot_of_owner hown]
  split
  next k c hfill => exact absurd hfill (hx k c)
  next => rfl

/-! ## FREE_SLOT (R10) -/

/-- A slot that is neither LOADING nor READY with a pin goes back to the free slots. -/
theorem freeSlot_frees (hown : (s.slot n).owner = some p) (hload : ∀ k c, (s.slot n).content ≠ .loading k c)
    (hpins : ∀ c o, (s.slot n).content = .ready c o → (s.slot n).pins = 0) :
    freeSlot p (slotBytes n) s = done [] (s.setSlot n Slot.free) := by
  rw [freeSlot, ofLength_ownedSlot_of_owner hown]
  split
  next k c hx => exact absurd hx (hload k c)
  next c o hx => simp [hpins c o hx]
  next => rfl

theorem freeSlot_of_loading (hown : (s.slot n).owner = some p) {k : Nat} {c : Crc32}
    (hx : (s.slot n).content = .loading k c) :
    freeSlot p (slotBytes n) s = refuse .inUse s := by
  rw [freeSlot, ofLength_ownedSlot_of_owner hown]
  simp [hx]

theorem freeSlot_of_ready_pinned (hown : (s.slot n).owner = some p) {c : Crc32} {o : Origin}
    (hx : (s.slot n).content = .ready c o) (hpins : (s.slot n).pins ≠ 0) :
    freeSlot p (slotBytes n) s = refuse .inUse s := by
  rw [freeSlot, ofLength_ownedSlot_of_owner hown]
  simp [hx, Nat.pos_of_ne_zero hpins]

end

/-! ## Both requests, in each state of the slot -/

/-- Settles O19: the row serves the request by its action, and each state of the slot falls under one of the cases of
`abandonFill` and `freeSlot`. -/
theorem abandonAndFree : Obligations.AbandonAndFree := by
  intro s p n hown
  refine ⟨fun hask => ?_, fun hask => ?_⟩
  · simp only [exec_abandonFill_asked hask]
    cases hx : (s.slot n).content with
    | filling k c => simp only [abandonFill_of_filling hown hx, done, Slot.heldWith]
    | _ => simp [abandonFill_of_not_filling hown, hx, refuse]
  · simp only [exec_freeSlot_asked hask]
    cases hx : (s.slot n).content with
    | free => trivial
    | held | filling k c => simp [freeSlot_frees hown, hx, done, Slot.free]
    | loading k c => simp only [freeSlot_of_loading hown hx, refuse]
    | ready c o =>
      by_cases hpins : (s.slot n).pins = 0
      · simp [freeSlot_frees hown, hx, hpins, done, Slot.free]
      · simp [freeSlot_of_ready_pinned hown hx hpins, hpins, refuse]

end Sys2Proof.Machine

/-! PROOF. RESCAN_LIBRARY (R28): its refusals in the order of its checks, and the scan that it begins as R24 states. -/

namespace Sys2Proof.Machine

/-! ## The checks before an action (R165, R172) -/

section
variable {act : List Byte → State → State × Answer} {body : List Byte} {s : State} {p : PortId}

theorem ofLength_of_length_eq {n : Nat} (h : body.length = n) : ofLength n act body s = act body s := if_pos h

theorem ofLength_of_length_ne {n : Nat} (h : body.length ≠ n) : ofLength n act body s = refuse .badLength s := if_neg h

theorem controlOnly_of_control (h : (s.port p).cls = .control) : controlOnly p act body s = act body s := if_pos h

theorem controlOnly_of_ordinary (h : (s.port p).cls = .ordinary) :
    controlOnly p act body s = refuse .notPermitted s :=
  if_neg (by simp [h])

end

/-! ## RESCAN_LIBRARY (R28) -/

section
variable {s : State} {p : PortId}

theorem rescanLibrary_of_body {body : List Byte} (h : body ≠ []) :
    rescanLibrary p body s = refuse .badLength s :=
  ofLength_of_length_ne (mt List.length_eq_zero_iff.mp h)

theorem rescanLibrary_of_ordinary (hcls : (s.port p).cls = .ordinary) :
    rescanLibrary p [] s = refuse .notPermitted s := by
  rw [rescanLibrary, ofLength_of_length_eq List.length_nil, controlOnly_of_ordinary hcls]

/-- From a CONTROL port only the jobs in the queue decide; the state of the library does not. -/
theorem rescanLibrary_of_control (hcls : (s.port p).cls = .control) :
    rescanLibrary p [] s =
      if s.lib.jobs = [] then done [] (startScan s) else refuseWith .inUse (u8 s.lib.jobs.length) s := by
  rw [rescanLibrary, ofLength_of_length_eq List.length_nil, controlOnly_of_control hcls]
  simp only [ne_eq, List.length_eq_zero_iff, ite_not]

end

/-- Settles O46: the row serves the request by its action, which refuses at the first check that fails, or else starts the
scan. -/
theorem rescanStartsAScan : Obligations.RescanStartsAScan := by
  intro s p body hask
  simp only [exec_rescanLibrary_asked hask]
  refine ⟨?badLength, ?notPermitted, ?inUse, ?scan⟩
  case badLength =>
    intro hbody
    rw [rescanLibrary_of_body hbody, refuse]
  case notPermitted =>
    rintro rfl hcls
    rw [rescanLibrary_of_ordinary hcls, refuse]
  case inUse =>
    rintro rfl hcls hjobs
    rw [rescanLibrary_of_control hcls, if_neg hjobs, refuseWith, u8]
  case scan =>
    rintro rfl hcls hjobs
    rw [rescanLibrary_of_control hcls, if_pos hjobs, done, startScan, startBurst, Config.flashTime]

end Sys2Proof.Machine

/-! PROOF. The requests that change a sequence without its step list: SET_REPEAT (R47), SEAL_SEQUENCE (R48) and UNSEAL_SEQUENCE
(R49), each with the checks of R42 before it; and the use raise that a sealed sequence grants (R54). -/

namespace Sys2Proof.Machine

/-! ## The checks of R42 -/

/-- The byte of a sequence number that heads a body reads back the number. -/
theorem field1_seqId (n : SeqId) (r : List Byte) : field1 (BitVec.ofNat 8 n.val :: r) 0 = n.val :=
  Nat.mod_eq_of_lt (n.isLt.trans (by decide))

theorem seqOf_of_le {number : Nat} (h : 32 ≤ number) : seqOf number = none := dif_neg (Nat.not_lt.mpr h)

section
variable {s : State} {p : PortId} {n : SeqId} (act : SeqId → State → State × Answer)

theorem ownedSeq_of_le {number : Nat} (h : 32 ≤ number) : ownedSeq p number act s = refuse .badArgument s := by
  rw [ownedSeq, seqOf_of_le h]

theorem ownedSeq_of_not_owner (h : (s.seq n).owner ≠ some p) : ownedSeq p n.val act s = refuse .notOwner s := by
  simp only [ownedSeq, seqOf_val, if_neg h]

theorem ownedSeq_of_owner (h : (s.seq n).owner = some p) : ownedSeq p n.val act s = act n s := by
  simp only [ownedSeq, seqOf_val, if_pos h]

theorem openSeq_of_owner (h : (s.seq n).owner = some p) :
    openSeq p n.val act s = if (s.seq n).state = .opened then act n s else refuse .wrongState s :=
  ownedSeq_of_owner _ h

end

section
variable {s : State} {p : PortId} {n : SeqId}

/-! ## SET_REPEAT (R47) -/

theorem setRepeat_of_owner (hown : (s.seq n).owner = some p) {count : Nat} (hcount : count < 65536) :
    setRepeat p (BitVec.ofNat 8 n.val :: le2 count) s =
      if (s.seq n).state ≠ .opened then refuse .wrongState s
      else if count = 0 then refuse .badArgument s
      else done [] (s.setSeq n { s.seq n with repeatCount := count }) := by
  have hfield : field2 (BitVec.ofNat 8 n.val :: le2 count) 1 = count :=
    (field2_append_right [BitVec.ofNat 8 n.val] (le2 count) 0).trans (by simpa using field2_le2 count hcount [])
  have hlen : (BitVec.ofNat 8 n.val :: le2 count).length = 3 := rfl
  rw [setRepeat, ofLength_of_length_eq hlen, field1_seqId, openSeq_of_owner _ hown, hfield, ite_not]

/-! ## SEAL_SEQUENCE (R48) -/

theorem sealSequence_of_length {body : List Byte} (h : body.length ≠ 1) :
    sealSequence p body s = refuse .badLength s :=
  ofLength_of_length_ne h

theorem sealSequence_of_le {k : Byte} (h : 32 ≤ k.toNat) : sealSequence p [k] s = refuse .badArgument s := by
  rw [sealSequence, ofLength_of_length_eq List.length_singleton]
  exact ownedSeq_of_le _ h

theorem sealSequence_of_not_owner (h : (s.seq n).owner ≠ some p) :
    sealSequence p [BitVec.ofNat 8 n.val] s = refuse .notOwner s := by
  rw [sealSequence, ofLength_of_length_eq List.length_singleton, field1_seqId]
  exact ownedSeq_of_not_owner _ h

theorem sealSequence_of_owner (hown : (s.seq n).owner = some p) :
    sealSequence p [BitVec.ofNat 8 n.val] s =
      if (s.seq n).state ≠ .opened ∨ (s.seq n).steps = [] then refuse .wrongState s
      else done [] (s.setSeq n { s.seq n with state := .sealed }) := by
  rw [sealSequence, ofLength_of_length_eq List.length_singleton, field1_seqId, openSeq_of_owner _ hown]
  by_cases hopen : (s.seq n).state = .opened <;> simp [hopen]

/-! ## UNSEAL_SEQUENCE (R49) -/

theorem unsealSequence_of_owner (hown : (s.seq n).owner = some p) :
    unsealSequence p [BitVec.ofNat 8 n.val] s =
      if (s.seq n).state ≠ .sealed then refuse .wrongState s
      else if (s.seq n).uses ≠ 0 then refuseWith .inUse (u8 (s.seq n).uses) s
      else done [] (s.setSeq n { s.seq n with state := .opened }) := by
  rw [unsealSequence, ofLength_of_length_eq List.length_singleton, field1_seqId, ownedSeq_of_owner _ hown]
  simp only [Nat.pos_iff_ne_zero]

end

/-! ## The use raise (R54) -/

theorem useRaise_of_sealed {s : State} {n : SeqId} (h : (s.seq n).state = .sealed) :
    useRaise n s = some (s.setSeq n { s.seq n with uses := (s.seq n).uses + 1 }) :=
  if_pos h

/-- Settles O25: each row serves its request by its action, which passes the checks of R42 and then decides by the state of the
sequence; the state that SEAL_SEQUENCE leaves holds the sequence SEALED, which is all that a use raise asks. -/
theorem repeatSealAndUnseal : Obligations.RepeatSealAndUnseal := by
  intro s p n
  refine ⟨fun body hask => ?refusals, fun hown => ⟨?setRepeat, ?sealSequence, ?useRaise, ?unsealSequence⟩⟩
  case refusals =>
    rw [exec_sealSequence_asked hask]
    refine ⟨fun hlen => ?_, ?_, ?_⟩
    · rw [sealSequence_of_length hlen, refuse]
    · rintro k rfl hk
      rw [sealSequence_of_le hk, refuse]
    · rintro rfl hother
      rw [sealSequence_of_not_owner hother, refuse]
  case setRepeat =>
    intro count hask hcount
    rw [exec_setRepeat_asked hask, setRepeat_of_owner hown hcount]
    split_ifs <;> rfl
  case sealSequence =>
    intro hask
    rw [exec_sealSequence_asked hask, sealSequence_of_owner hown]
    split_ifs <;> rfl
  case useRaise =>
    exact ⟨_, useRaise_of_sealed (by simp)⟩
  case unsealSequence =>
    intro hask
    rw [exec_unsealSequence_asked hask, unsealSequence_of_owner hown]
    split_ifs <;> rfl

end Sys2Proof.Machine

/-! PROOF. CLEAR_HALT (R100): its refusals in the order of its checks, and the selection that follows the end of the halt. -/

namespace Sys2Proof.Machine

/-! ## What selection leaves of the player (R82) -/

/-- Selection from x leads to y: only the holding number, the output and the stack differ, and the fallback context has not
taken the output, since only a fault starts it (R98). -/
def Player.SelectsTo (x y : Player) : Prop :=
  ∃ number out stack, y = { x with lastNumber := number, out := out, stack := stack }
    ∧ ∀ k c, out = .fallback k c → x.out = .fallback k c

theorem Player.SelectsTo.faultRecord {x y : Player} (h : x.SelectsTo y) : y.faultRecord = x.faultRecord := by
  obtain ⟨_, _, _, rfl, _⟩ := h
  rfl

theorem Player.SelectsTo.out_ne_fallback {x y : Player} (h : x.SelectsTo y) (hidle : x.out = .idle) (k : Nat)
    (c : Context) : y.out ≠ .fallback k c := by
  obtain ⟨_, _, _, rfl, hfallback⟩ := h
  intro hout
  cases hidle.symm.trans (hfallback k c hout)

theorem Player.SelectsTo.refl (x : Player) : x.SelectsTo x := ⟨_, _, _, rfl, fun _ _ h => h⟩

theorem Player.SelectsTo.startContext (level : Nat) (p : PortId) (tag : Word16) (n : SeqId) (o : Nat) (s : State) :
    s.player.SelectsTo (startContext level p tag n o s).player :=
  ⟨_, _, _, (congrArg State.player (startContext_others level p tag n o s) :), nofun⟩

theorem Player.SelectsTo.offerDirect (p : PortId) (level : Nat) (s : State) :
    s.player.SelectsTo (offerDirect p level s).player :=
  ⟨_, _, _, rfl, nofun⟩

/-- The notice of a resumption goes to the submitter's port and leaves the player alone. -/
theorem notifySubmitter_player (s : State) (p : Option PortId) (n : Notice) :
    (s.notifySubmitter p n).player = s.player := by
  cases p <;> rfl

theorem Player.SelectsTo.resumeTop (s : State) : s.player.SelectsTo (resumeTop s).player := by
  unfold Machine.resumeTop
  split
  next c rest _ =>
    have hplayer := congrArg State.player
      (resumeContext_others c { s with player := { s.player with stack := rest } })
    rw [notifySubmitter_player] at hplayer
    exact ⟨_, _, _, hplayer, nofun⟩
  next => exact .refl _

/-- An offer that ends at once has spent a holding number, which selection may change anyway. -/
theorem Player.SelectsTo.of_spendNumber {s : State} {y : Player} (h : (spendNumber s).player.SelectsTo y) :
    s.player.SelectsTo y := by
  obtain ⟨number, out, stack, rfl, hfallback⟩ := h
  exact ⟨number, out, stack, rfl, hfallback⟩

theorem Player.SelectsTo.selectIdle (n : Nat) (s : State) : s.player.SelectsTo (selectIdle n s).player := by
  induction n generalizing s with
  | zero => exact .refl _
  | succ n ih =>
    unfold Machine.selectIdle
    split
    next => exact .resumeTop s
    next e rest _ =>
      split
      next =>
        dsimp only
        split
        next tag seq override _ => exact .startContext e.level e.port tag seq override { s with queue := rest }
        next =>
          split
          next => exact .offerDirect e.port e.level { s with queue := rest }
          next => exact .of_spendNumber (s := { s with queue := rest }) (ih _)
      next => exact .resumeTop s

theorem Player.SelectsTo.select {s : State} (hidle : s.player.out = .idle) : s.player.SelectsTo (select s).player := by
  cases hlink : s.player.linkUp with
  | true =>
    rw [select_idle hlink hidle]
    exact .selectIdle _ s
  | false =>
    rw [select_linkDown hlink]
    exact .refl _

/-! ## CLEAR_HALT (R100) -/

section
variable {s : State} {p : PortId}

theorem clearHalt_of_body {body : List Byte} (h : body ≠ []) : clearHalt p body s = refuse .badLength s :=
  ofLength_of_length_ne (mt List.length_eq_zero_iff.mp h)

theorem clearHalt_of_ordinary (hcls : (s.port p).cls = .ordinary) : clearHalt p [] s = refuse .notPermitted s := by
  rw [clearHalt, ofLength_of_length_eq List.length_nil, controlOnly_of_ordinary hcls]

theorem clearHalt_of_control (hcls : (s.port p).cls = .control) :
    clearHalt p [] s =
      if s.player.out = .halted then done [] { s with player := { s.player with out := .idle, haltRecord := none } }
      else refuse .wrongState s := by
  rw [clearHalt, ofLength_of_length_eq List.length_nil, controlOnly_of_control hcls]

end

/-- Settles O31: the row serves the request by its action, which refuses at the first check that fails, or else leaves the
player IDLE; the selection after the reply then starts from an IDLE player, and without the link it changes nothing. -/
theorem clearHaltEndsTheHalt : Obligations.ClearHaltEndsTheHalt := by
  intro s p body hask
  simp only [exec_clearHalt_asked hask]
  refine ⟨?badLength, ?notPermitted, ?wrongState, ?cleared⟩
  case badLength =>
    intro hbody
    rw [clearHalt_of_body hbody]
    rfl
  case notPermitted =>
    rintro rfl hcls
    rw [clearHalt_of_ordinary hcls]
    rfl
  case wrongState =>
    rintro rfl hcls hout
    rw [clearHalt_of_control hcls, if_neg hout]
    rfl
  case cleared =>
    rintro rfl hcls hout
    rw [clearHalt_of_control hcls, if_pos hout]
    have hselects := Player.SelectsTo.select (s := ({ s with
      player := { s.player with out := .idle, haltRecord := none } } : State).reply p { status := .done, body := [] }) rfl
    refine ⟨rfl, hselects.faultRecord, hselects.out_ne_fallback rfl, fun hlink => ⟨select_linkDown hlink, ?_⟩⟩
    simp [Player.waitingForLink, hlink]

end Sys2Proof.Machine

/-! PROOF. What one step of the part can do, said once: every command but a chip reset is a run of moves, each of which changes one
block, or moves references between blocks together with their counts. Each invariant of Sys2Proof/Safety.lean is then a matter of
the moves alone. -/

namespace Sys2Proof.Machine

-- One declaration after another, here and in every part below: a thread for each takes more memory than the check allows.
set_option Elab.async false

/-! ## The moves -/

/-- What a run may do beside what every run may: write back a context of an earlier holding, set the hold level, and set the
designation. -/
structure Leave where
  stale : Prop
  holdLevel : Prop
  designate : Prop

/-- No channel is lit. -/
def State.dark (s : State) : Prop := ∀ c, (s.light c).on = false

/-- A list of use releases, in its order. -/
def useReleases (l : List SeqId) (s : State) : State := l.foldl (fun u n => useRelease n u) s

/-- The references to a sequence that a queue, an output and a stack hold (R53). -/
def holdings (queue : List Entry) (out : Output) (stack : List Context) (q : SeqId) : Nat :=
  queue.countP (Entry.names q) + (out.contexts ++ stack).countP (fun c => c.seq == q)

/-- The use raise that an entry needs to join the queue, if it needs one (R63). -/
def raisedFor (e : Entry) (s t : State) : Prop :=
  match e.ask with
  | .play _ n _ => useRaise n s = some t
  | .direct => t = s

/-- The use raise that a new designation needs, if there is one (R97). -/
def raisedForDesignation (d : Option SeqId) (s t : State) : Prop :=
  match d with
  | some n => useRaise n s = some t
  | none => t = s

/-- One move of the part. A move of one block says that it keeps that block's account of itself; the others say what the
accounts between blocks turn on. -/
inductive Move (a : Leave) : State → State → Prop
  /-- What blocks have handed each other, the commands that wait, and the level of RESET_n. -/
  | handed (s : State) (low : Bool) (announcements : List Announcement) (selects : Nat) (fromLink : List LinkEvent)
      (fromTrig : List TrigEvent) (fromLights : List RaisedFault) (pending : List Instr) :
      Move a s { s with
        resetLow := low, announcements := announcements, selects := selects, fromLink := fromLink, fromTrig := fromTrig
        fromLights := fromLights, pending := pending }
  | ports (s : State) (v : Vector Port 4) (h : ∀ p : PortId, (s.port p).accounted → v[p].accounted) :
      Move a s { s with ports := v }
  | link (s : State) (l : Link) (h : LinkConsistent s → LinkConsistent { s with link := l }) :
      Move a s { s with link := l }
  | trig (s : State) (x : Trigger) (h : LatchesConsistent s → LatchesConsistent { s with trig := x }) :
      Move a s { s with trig := x }
  | loader (s : State) (x : Loader) (h : LoaderConsistent s → LoaderConsistent { s with lib := x }) :
      Move a s { s with lib := x }
  | memory (s : State) (address : Nat) (bytes : List Byte) :
      Move a s { s with planeMem := memWrite address bytes s.planeMem }
  /-- Slots change without a pin raised or released. -/
  | slots (s : State) (v : Vector Slot 448)
      (h : ∀ n : SlotId, SlotOk (s.slot n) → SlotOk v[n] ∧ v[n].pins = (s.slot n).pins) :
      Move a s { s with slots := v }
  /-- Channels change without one going on. -/
  | dim (s : State) (v : Vector Light 4) (h : ∀ c : ChannelId, v[c].on = true → (s.light c).on = true) :
      Move a s { s with lights := v }
  | light (s : State) (v : Vector Light 4) (h : s.player.out.inHold = true) : Move a s { s with lights := v }
  /-- The player's timers, its records and its view of the link. -/
  | notes (s : State) (hold gap : Option Nat) (fault halt : Option FaultRecord) (up : Bool) :
      Move a s { s with player := { s.player with
        holdTimer := hold, gapTimer := gap, faultRecord := fault, haltRecord := halt, linkUp := up } }
  /-- The timer of an offer or of a show runs. -/
  | outTimer (s : State) (d : Nat) : Move a s (s.setOut (s.player.out.after d))
  | holdLevel (s : State) (n : Nat) (h : a.holdLevel) : Move a s { s with player := { s.player with holdLevel := n } }
  | designate (s t : State) (d : Option SeqId) (h : a.designate) (ht : raisedForDesignation d s t) :
      Move a s ((releaseDesignated s.player.designated t).designate d)
  /-- A sequence changes without its steps and its uses. -/
  | seq (s : State) (n : SeqId) (x : Sequence) (hsteps : x.steps = (s.seq n).steps) (huses : x.uses = (s.seq n).uses)
      (hstate : x.state ≠ .empty) (hsealed : (s.seq n).state = .sealed → 0 < x.uses → x.state = .sealed)
      (hok : SeqOk (s.seq n) → SeqOk x) : Move a s (s.setSeq n x)
  | claim (s : State) (n : SeqId) (p : PortId) (count : Nat) (h : (s.seq n).state = .empty) :
      Move a s (s.setSeq n
        { state := .opened, owner := some p, repeatCount := count, steps := [], uses := 0, orphan := false })
  | append (s t : State) (n : SeqId) (batch : List Step) (ht : pinRaise (batch.map Step.slot) s = .ok t)
      (hstate : (s.seq n).state = .opened) (hlen : (s.seq n).steps.length + batch.length ≤ Config.maxSteps)
      (hpool : batch.length ≤ s.poolFree) :
      Move a s { t.setSeq n { s.seq n with steps := (s.seq n).steps ++ batch } with
        poolFree := s.poolFree - batch.length }
  | shorten (s : State) (n : SeqId) (k : Nat) (hstate : (s.seq n).state = .opened) :
      Move a s (returnSteps ((s.seq n).steps.drop k) (s.setSeq n { s.seq n with steps := (s.seq n).steps.take k }))
  | emptied (s : State) (n : SeqId) (h : (s.seq n).state = .sealed → (s.seq n).uses = 0) : Move a s (emptySequence n s)
  /-- An entry joins the queue, with its use raise. -/
  | join (s t : State) (e : Entry) (ht : raisedFor e s t) (hrange : e.inRange) (hlen : s.queue.length < Config.queueSize) :
      Move a s { t with queue := joinQueue e s.queue }
  /-- Entries and contexts go, with their use releases. -/
  | release (s : State) (l : List SeqId) (queue : List Entry) (out : Output) (stack : List Context)
      (hqueue : queue.Sublist s.queue) (hstack : stack.Sublist s.player.stack)
      (hout : out = s.player.out ∨ ((out = .idle ∨ out = .halted) ∧ (s.player.out.inHold = true → s.dark)))
      (hshows : out.shows = s.player.out.shows)
      (hrefs : ∀ q, holdings s.queue s.player.out s.player.stack q = holdings queue out stack q + l.count q) :
      Move a s (useReleases l { s with queue := queue, player := { s.player with out := out, stack := stack } })
  /-- The head entry starts a context. -/
  | start (s : State) (e : Entry) (rest : List Entry) (tag : Word16) (n : SeqId) (o : Nat) (c : Context)
      (hqueue : s.queue = e :: rest) (hask : e.ask = .play tag n o) (hout : s.player.out = .idle)
      (hlevel : s.stackLevel < e.level) (hseq : c.seq = n) (hc : c.level = some e.level) :
      Move a s { s with
        queue := rest
        player := { s.player with
          out := .running (s.player.lastNumber + 1) c, lastNumber := s.player.lastNumber + 1 } }
  | offer (s : State) (e : Entry) (rest : List Entry) (o : Offer) (hqueue : s.queue = e :: rest) (hask : e.ask = .direct)
      (hout : s.player.out = .idle) (hlevel : s.stackLevel < e.level) (ho : o.level = e.level) :
      Move a s { s with
        queue := rest
        player := { s.player with
          out := .offering (s.player.lastNumber + 1) o, lastNumber := s.player.lastNumber + 1 } }
  | spend (s : State) (e : Entry) (rest : List Entry) (hqueue : s.queue = e :: rest) (hask : e.ask = .direct) :
      Move a s (spendNumber { s with queue := rest })
  | resume (s : State) (c c' : Context) (rest : List Context) (hstack : s.player.stack = c :: rest)
      (hout : s.player.out = .idle) (hseq : c'.seq = c.seq) (hlevel : c'.level = c.level) :
      Move a s { s with player := { s.player with
        out := .running (s.player.lastNumber + 1) c', lastNumber := s.player.lastNumber + 1, stack := rest } }
  /-- The running context goes onto the stack, under a head of a higher level. -/
  | push (s : State) (k : Nat) (c c' : Context) (hout : s.player.out = .running k c) (hseq : c'.seq = c.seq)
      (hlevel : c'.level = c.level) (hdark : s.player.out.inHold = true → s.dark)
      (hhead : ∃ e ∈ s.queue, ∃ own, c.level = some own ∧ own < e.level) :
      Move a s { s with player := { s.player with out := .idle, stack := c' :: s.player.stack } }
  | fallback (s : State) (n : SeqId) (c : Context) (hout : s.player.out = .idle) (hd : s.player.designated = some n)
      (hseq : c.seq = n) :
      Move a s { (useRaise n s).getD s with player := { s.player with
        out := .fallback (s.player.lastNumber + 1) c, lastNumber := s.player.lastNumber + 1 } }
  /-- The running context goes on. -/
  | context (s : State) (k : Nat) (c c' : Context) (hout : s.player.out.context? = some (k, c)) (hseq : c'.seq = c.seq)
      (hlevel : c'.level = c.level) (hhold : c.phase = some .hold → c'.phase = some .hold ∨ s.dark) :
      Move a s (s.setContext c')
  | stale (s : State) (c : Context) (h : a.stale) : Move a s (s.setContext c)
  | accept (s : State) (k : Nat) (o : Offer) (hout : s.player.out = .offering k o) :
      Move a s (s.setOut (.direct k { port := o.port, level := o.level, shows := [], timer := none }))
  /-- The shows of a holding go on. -/
  | shows (s : State) (k : Nat) (d : Direct) (shows : List Show) (timer : Option Nat) (hout : s.player.out = .direct k d)
      (hslots : shows.map Show.slot = d.shows.map Show.slot)
      (hhold : s.player.out.inHold = true → (Output.direct k { d with shows := shows }).inHold = true) :
      Move a s (s.setOut (.direct k { d with shows := shows, timer := timer }))
  | joinShow (s t : State) (k : Nat) (d : Direct) (y : Show) (hout : s.player.out = .direct k d)
      (ht : pinRaise [y.slot] s = .ok t) : Move a s (t.setOut (.direct k { d with shows := d.shows ++ [y] }))
  | endShow (s : State) (k : Nat) (d : Direct) (x : Show) (rest : List Show) (hout : s.player.out = .direct k d)
      (hshows : d.shows = x :: rest) (hdark : s.player.out.inHold = true → s.dark) :
      Move a s ((pinRelease [x.slot] s).setOut (.direct k { d with shows := rest, timer := none }))
  /-- An offer or a holding ends, with the pins of its shows. -/
  | endDirect (s : State) (hctx : s.player.out.context? = none) (hdark : s.player.out.inHold = true → s.dark) :
      Move a s ((pinRelease (s.player.out.shows.map Show.slot) s).setOut .idle)

/-- A run of moves. -/
abbrev Moves (a : Leave) : State → State → Prop := Relation.ReflTransGen (Move a)

end Sys2Proof.Machine

/-! PROOF. Requests to the plane link, the ports, the trigger unit and the light channels, as runs of moves. -/

namespace Sys2Proof.Machine

set_option Elab.async false

/-! ## The plane link (R117 to R127) -/

section
variable {a : Leave} {s : State}

theorem Move.of_link {t : State} (h : { t with link := s.link } = s) (k : LinkConsistent s → LinkConsistent t) :
    Move a s t := by
  obtain ⟨l, rfl⟩ : ∃ l, t = { s with link := l } := ⟨t.link, (congrArg (fun u : State => { u with link := t.link }) h :)⟩
  exact .link s l k

/-- A change of the link with what it hands the player. -/
theorem Moves.of_link {t : State} (h : { t with link := s.link, fromLink := s.fromLink } = s)
    (k : LinkConsistent s → LinkConsistent t) : Moves a s t := by
  obtain ⟨l, e, rfl⟩ : ∃ l e, t = { s with link := l, fromLink := e } :=
    ⟨t.link, t.fromLink, (congrArg (fun u : State => { u with link := t.link, fromLink := t.fromLink }) h :)⟩
  exact .head (.link s l k) (.single (.handed { s with link := l } s.resetLow s.announcements s.selects e s.fromTrig
    s.fromLights s.pending))

/-- A link that ignores nothing and has nothing under way is in order once it has become IDLE. -/
theorem becomeIdle_consistent (hignore : s.link.ignore = false) (hid : s.link.identityIn .pending .loaded = true) :
    LinkConsistent (becomeIdle s) := by
  unfold becomeIdle
  dsimp only
  split
  · simp_all [LinkConsistent, Link.sendBlank, LinkState.awaiting, Link.identityIn]
  · split
    · split <;> simp_all [LinkConsistent, Link.sendLoad, LinkState.awaiting, Link.identityIn]
    · simp_all [LinkConsistent, LinkState.awaiting, Link.identityIn]

/-- A link whose identity has been dropped is in order. -/
theorem dropIdentity_consistent {i : Identity} (hi : s.link.identity = some i) (h : LinkConsistent s) :
    LinkConsistent { s with link := s.link.dropIdentity i } := by
  unfold Link.dropIdentity
  cases hstage : i.stage <;> simp_all [LinkConsistent, Link.identityIn]

theorem discard_moves (k : Nat) : Moves a s (discard k s) := by
  refine .single (.of_link (discard_others k s) fun h => ?_)
  unfold discard
  repeat' split
  · exact dropIdentity_consistent ‹_› h
  all_goals exact h

/-- A PENDING identity that takes the place of another is in order; an IDLE link sends it at once. -/
theorem pendIdentity_consistent {i : Identity} (hi : i.stage = .pending) (hup : s.link.state.refusal = none)
    (h : LinkConsistent s) :
    LinkConsistent (if s.link.state = .idle then becomeIdle { s with link := { s.link with identity := some i } }
      else { s with link := { s.link with identity := some i } }) := by
  have hdown : ¬ (s.link.state = .down ∨ s.link.state = .failed) := by
    rintro (hs | hs) <;> simp [hs, LinkState.refusal] at hup
  obtain ⟨htimer, -, hidle, -, hblank⟩ := h
  split
  next hs => exact becomeIdle_consistent (hidle hs).2.1 (by simp [Link.identityIn, hi])
  next hs =>
    exact ⟨htimer, fun hs' => absurd hs' hdown, fun hs' => absurd hs' hs, fun _ => by simp [Link.identityIn, hi],
      fun hs' => ⟨(hblank hs').1, by simp [Link.identityIn, hi]⟩⟩

theorem dropIdentity_state (l : Link) (i : Identity) : (l.dropIdentity i).state = l.state := by
  unfold Link.dropIdentity
  split <;> rfl

theorem loadRequest_moves (holder : HolderRef) (idx : Nat) (slot : SlotId) (verify : Bool) :
    Moves a s (loadRequest holder idx slot verify s) := by
  refine .of_link (loadRequest_others ..) fun h => ?_
  unfold loadRequest
  dsimp only
  split
  · exact h
  next hup =>
    split
    next j hj =>
      split
      · exact pendIdentity_consistent rfl hup h
      · exact pendIdentity_consistent (s := { s with link := s.link.dropIdentity j }) rfl
          (by rw [dropIdentity_state]; exact hup) (dropIdentity_consistent hj h)
    · exact pendIdentity_consistent rfl hup h

theorem swapRequest_moves (holder : HolderRef) (idx : Nat) (slot : SlotId) : Moves a s (swapRequest holder idx slot s) := by
  refine .of_link (swapRequest_others ..) fun h => ?_
  unfold swapRequest
  repeat' split
  · exact h
  · simp_all [LinkConsistent, LinkState.awaiting, Link.identityIn]
  all_goals exact h

theorem blankRequest_moves : Moves a s (blankRequest s) := by
  refine .single (.of_link (blankRequest_others s) fun h => ?_)
  obtain ⟨htimer, hdown, hidle, hignore, hblank⟩ := h
  unfold blankRequest
  split
  next hs =>
    obtain ⟨-, hi, hid⟩ := hidle hs
    refine ⟨rfl, by simp [Link.sendBlank], by simp [Link.sendBlank], by simp [Link.sendBlank, hi], fun _ => ⟨hi, ?_⟩⟩
    unfold Link.identityIn at *
    split at hid <;> simp_all [Link.sendBlank]
  next hs => exact ⟨htimer, hdown, fun hs' => absurd hs' hs, hignore, hblank⟩

/-! ## What the ports are handed (R158, R164, R170) -/

/-- Handing a port notices leaves its accounts alone. -/
theorem Move.of_notices {t : State} (h : { t with ports := s.ports } = s) (k : NoticesOnly s t) : Move a s t := by
  obtain ⟨v, rfl⟩ : ∃ v, t = { s with ports := v } :=
    ⟨t.ports, (congrArg (fun u : State => { u with ports := t.ports }) h :)⟩
  refine .ports s v fun p hp => ?_
  obtain ⟨ns, hns⟩ := k p
  have hport : v[p] = _ := hns
  rw [hport]
  exact hp

theorem notify_moves (p : PortId) (n : Notice) : Moves a s (s.notify p n) :=
  .single (.of_notices rfl (.notify s p n))

theorem notifyControl_moves (n : Notice) : Moves a s (s.notifyControl n) :=
  .single (.of_notices rfl (.notifyControl s n))

theorem notifySubmitter_moves (p : Option PortId) (n : Notice) : Moves a s (s.notifySubmitter p n) := by
  cases p with
  | none => exact .refl
  | some p => exact notify_moves p n

theorem notifyDirectEnded_moves (o : Output) (reason : EndReason) (byLevel : Option Nat) :
    Moves a s (notifyDirectEnded o reason byLevel s) := by
  unfold notifyDirectEnded
  split
  · exact notify_moves _ _
  · exact .refl

/-- One port changes. -/
theorem Move.setPort (p : PortId) (q : Port) (h : (s.port p).accounted → q.accounted) : Move a s (s.setPort p q) := by
  refine .ports s _ fun p' hp' => ?_
  show ((s.setPort p q).port p').accounted
  rw [State.port_setPort]
  split
  next heq => exact h (heq ▸ hp')
  next => exact hp'

/-- A request in execution that stands at another place is in execution still. -/
theorem accounted_moveRequest {q : Port} (f : InExec → InExec) (inbox : List Handed) (h : q.accounted) :
    Port.accounted { q with inExec := q.inExec.map f, inbox := inbox } := by
  obtain ⟨hout, hmax, hnotices, hnumbers, hstale, htxn⟩ := h
  have hsome : (q.inExec.map f).isSome = q.inExec.isSome := Option.isSome_map
  rw [← hsome] at hout hstale
  exact ⟨hout, hmax, hnotices, hnumbers, hstale, htxn⟩

theorem reply_moves (p : PortId) (x : Answer) : Moves a s (s.reply p x) :=
  .single (.setPort p _ (accounted_moveRequest _ _))

theorem moveRequest_moves (p : PortId) (place : Place) : Moves a s (s.moveRequest p place) :=
  .single (.setPort p _ (accounted_moveRequest _ _))

/-! ## What waits between blocks -/

theorem selects_moves (n : Nat) : Moves a s { s with selects := n } :=
  .single (.handed s s.resetLow s.announcements n s.fromLink s.fromTrig s.fromLights s.pending)

theorem fromLink_moves (l : List LinkEvent) : Moves a s { s with fromLink := l } :=
  .single (.handed s s.resetLow s.announcements s.selects l s.fromTrig s.fromLights s.pending)

theorem fromTrig_moves (l : List TrigEvent) : Moves a s { s with fromTrig := l } :=
  .single (.handed s s.resetLow s.announcements s.selects s.fromLink l s.fromLights s.pending)

theorem fromLights_moves (l : List RaisedFault) : Moves a s { s with fromLights := l } :=
  .single (.handed s s.resetLow s.announcements s.selects s.fromLink s.fromTrig l s.pending)

theorem announcements_moves (l : List Announcement) : Moves a s { s with announcements := l } :=
  .single (.handed s s.resetLow l s.selects s.fromLink s.fromTrig s.fromLights s.pending)

theorem toPlayer_moves (e : LinkEvent) : Moves a s (toPlayer e s) := fromLink_moves _

/-! ## The trigger unit (R105 to R115) -/

theorem clearLatches_moves : Moves a s (clearLatches s) := by
  refine .single (.trig s _ fun _ => ⟨?_, by simp [Latch.clear], by simp [Latch.clear], by simp [Latch.clear]⟩)
  show match s.trig.wait with | some w => _ | none => True
  split
  next w _ => cases hw : w.source <;> simp [Trigger.latch, Latch.clear]
  next => trivial

theorem cancelWait_moves : Moves a s (cancelWait s) :=
  .single (.trig s _ fun ⟨_, hA, hB, hS⟩ => ⟨trivial, hA, hB, hS⟩)

theorem syncPulse_moves : Moves a s (syncPulse s) :=
  .single (.trig s _ fun h => h)

/-- A wait is made on a clear latch. -/
theorem makeWait_moves {x : Source} (holder : HolderRef) (h : (s.trig.latch x).pending = false) :
    Moves a s (makeWait x holder s) :=
  .single (.trig s _ fun ⟨_, hA, hB, hS⟩ => ⟨by cases x <;> exact h, hA, hB, hS⟩)

/-- A latch that is neither overrun nor pending is in order whatever waits. -/
theorem consumeLatch_moves (x : Source) : Moves a s (consumeLatch x s) := by
  refine .single (.trig s _ fun h => ?_)
  obtain ⟨hwait, hA, hB, hS⟩ := h
  refine ⟨?_, ?_, ?_, ?_⟩
  · cases x <;> (cases hw : s.trig.wait with
      | none => simp [Trigger.setLatch, hw]
      | some w => cases hsrc : w.source <;> simp_all [Trigger.setLatch, Trigger.latch, Latch.clear])
  all_goals cases x <;> simp_all [Trigger.setLatch, Latch.clear]

/-! ## The light channels (R129, R130) -/

theorem light_of_lights (v : Vector Light 4) (c : ChannelId) : ({ s with lights := v } : State).light c = v[c] := rfl

/-- A change of every channel that lights none. -/
theorem Move.eachLight (f : ChannelId → Light → Light) (h : ∀ c x, (f c x).on = true → x.on = true) :
    Move a s (s.eachLight f) := by
  refine .dim s _ fun c hc => ?_
  have hc' : ((s.eachLight f).light c).on = true := hc
  rw [State.light_eachLight] at hc'
  exact h c _ hc'

theorem off_on (x : Light) : (if x.on then x.off else x).on = false := by
  cases h : x.on <;> simp [h, Light.off]

theorem lightsOff_moves : Moves a s (lightsOff s) :=
  .single (.eachLight _ fun _ x h => by simp [off_on] at h)

theorem lightsOff_dark : (lightsOff s).dark := fun c => by simp [lightsOff, off_on]

theorem resetLights_moves : Moves a s (resetLights s) :=
  .single (.eachLight _ fun _ x h => by simp [off_on] at h)

theorem lightRequest_moves (holder : HolderRef) (mask : Mask) (h : s.player.out.inHold = true) :
    Moves a s (lightRequest holder mask s) :=
  .single (.light s _ h)

/-- One channel changes and does not go on. -/
theorem Move.setLight (c : ChannelId) (x : Light) (h : x.on = true → (s.light c).on = true) :
    Move a s (s.setLight c x) := by
  refine .dim s _ fun c' hc => ?_
  have hc' : ((s.setLight c x).light c').on = true := hc
  rw [State.light_setLight] at hc'
  split at hc'
  next heq => exact heq ▸ h hc'
  next => exact hc'

theorem forceOff_moves (c : ChannelId) : Moves a s (forceOff c s) := by
  have hoff : Move a s (s.setLight c { (s.light c).off with trip := true }) := .setLight c _ fun h => by simp [Light.off] at h
  unfold forceOff
  dsimp only
  split
  · exact .head hoff (fromLights_moves _)
  · exact .single hoff

theorem forceIfPast_moves (c : ChannelId) : Moves a s (forceIfPast s c) := by
  unfold forceIfPast
  split
  · exact forceOff_moves c
  · exact .refl

/-- A run of moves for each element of a list. -/
theorem Moves.foldl {α : Type} {f : State → α → State} (h : ∀ s x, Moves a s (f s x)) (l : List α) :
    ∀ s, Moves a s (l.foldl f s) := by
  induction l with
  | nil => exact fun s => .refl
  | cons x l ih => exact fun s => (h s x).trans (ih (f s x))

/-! ## The link coming up, and its answers (R119 to R128) -/

theorem linkChanged_moves (old : LinkState) : Moves a s (linkChanged old s) := notifyControl_moves _

/-- A link without an identity that ignores nothing may send a BLANK. -/
theorem linkComesUp_moves (hdown : s.link.state = .down ∨ s.link.state = .failed) : Moves a s (linkComesUp s) := by
  refine .trans (.single (.link s s.link.sendBlank fun ⟨_, hnone, _, _, _⟩ => ?_))
    ((linkChanged_moves _).trans (toPlayer_moves _))
  obtain ⟨hid, hignore⟩ := hnone hdown
  simp [LinkConsistent, Link.sendBlank, LinkState.awaiting, Link.identityIn, hid, hignore]

theorem restartLink_moves : Moves a s (restartLink s) := by
  unfold restartLink
  split
  next h => exact linkComesUp_moves (.inr h)
  next => exact .refl

end
end Sys2Proof.Machine

/-! PROOF. Contexts that are pushed, the endings of direct mode and selection, as runs of moves. -/

namespace Sys2Proof.Machine

set_option Elab.async false

section
variable {a : Leave} {s : State}

/-! ## What the requests to other blocks leave alone -/

theorem discard_player (k : Nat) : (discard k s).player = s.player := (congrArg State.player (discard_others k s) :)

theorem discard_lights (k : Nat) : (discard k s).lights = s.lights := (congrArg State.lights (discard_others k s) :)

theorem silence_player (k : Nat) :
    (silence k s).player = { s.player with holdTimer := none, gapTimer := none } :=
  (congrArg State.player (silence_others k s) :)

theorem silence_queue (k : Nat) : (silence k s).queue = s.queue := (congrArg State.queue (silence_others k s) :)

theorem silence_dark (k : Nat) : (silence k s).dark := lightsOff_dark

theorem dark_of_lights {t : State} (h : t.lights = s.lights) (k : s.dark) : t.dark := fun c => by
  have := k c
  simp only [State.light] at this ⊢
  rwa [h]

/-! ## Contexts that end and contexts that are pushed (R85, R86, R94) -/

theorem stopTimers_moves : Moves a s (stopTimers s) :=
  .single (.notes s none none s.player.faultRecord s.player.haltRecord s.player.linkUp)

theorem silence_moves (k : Nat) : Moves a s (silence k s) :=
  stopTimers_moves.trans (cancelWait_moves.trans ((discard_moves k).trans lightsOff_moves))

theorem pushContext_moves {k : Nat} {c : Context} (cut : Bool) {level : Nat} {c₀ : Context}
    (hout : s.player.out = .running k c₀) (hseq : c.seq = c₀.seq) (hlevel : c.level = c₀.level)
    (hhead : ∃ e ∈ s.queue, ∃ own, c₀.level = some own ∧ own < e.level) :
    Moves a s (pushContext k c cut level s) := by
  refine (silence_moves k).trans (.trans (.single (.push (silence k s) k c₀ { c with phase := none, cut := cut } ?_ hseq
    hlevel (fun _ => silence_dark k) ?_)) (notifySubmitter_moves _ _))
  · rw [silence_player, hout]
  · rw [silence_queue]
    exact hhead

/-! ## The endings of direct mode (R135) -/

/-- The first show of a list in HOLD is a show in HOLD. -/
theorem any_hold_of_inHold {k : Nat} {d : Direct} (h : (Output.direct k d).inHold = true) :
    d.shows.any (fun x => x.stage == .hold) = true := by
  cases hshows : d.shows <;> simp_all [Output.inHold]

theorem endDirect_moves : Moves a s (endDirect s) := by
  unfold endDirect
  split
  next k o hout =>
    have hout' : (discard k s).player.out = .offering k o := by rw [discard_player, hout]
    have hend := Move.endDirect (a := a) (discard k s) (by rw [hout']; rfl) (by simp [hout', Output.inHold])
    rw [hout'] at hend
    exact (discard_moves k).tail hend
  next k d hout =>
    have hlit : Moves a s (if d.shows.any (fun x => x.stage == .hold) then lightsOff s else s) := by
      split
      · exact lightsOff_moves
      · exact .refl
    refine hlit.trans ((discard_moves k).tail ?_)
    generalize hu : (if d.shows.any (fun x => x.stage == .hold) then lightsOff s else s) = u
    have hplayer : u.player = s.player := by subst hu; split <;> rfl
    have hout' : (discard k u).player.out = .direct k d := by rw [discard_player, hplayer, hout]
    have hend := Move.endDirect (a := a) (discard k u) (by rw [hout']; rfl) fun hhold => by
      rw [hout'] at hhold
      refine dark_of_lights (discard_lights k) ?_
      subst hu
      rw [if_pos (any_hold_of_inHold hhold)]
      exact lightsOff_dark
    rw [hout'] at hend
    exact hend
  next => exact .refl

theorem endDirectWith_moves (reason : EndReason) (byLevel : Option Nat) :
    Moves a s (endDirectWith reason byLevel s) :=
  endDirect_moves.trans (notifyDirectEnded_moves _ _ _)

/-- No context plays after the ending of an offer or a holding. -/
theorem endDirect_out (h : s.player.out.context? = none) (hh : s.player.out ≠ .halted) :
    (endDirect s).player.out = .idle := by
  unfold endDirect
  split
  · rfl
  · rfl
  next hoffer hdirect =>
    cases hout : s.player.out with
    | idle => rfl
    | halted => exact absurd hout hh
    | running k c => simp [hout, Output.context?] at h
    | fallback k c => simp [hout, Output.context?] at h
    | offering k o => exact absurd hout (hoffer k o)
    | direct k d => exact absurd hout (hdirect k d)

theorem notifyDirectEnded_player (o : Output) (reason : EndReason) (byLevel : Option Nat) :
    (notifyDirectEnded o reason byLevel s).player = s.player := by
  unfold notifyDirectEnded
  split <;> rfl

theorem endDirectWith_out (reason : EndReason) (byLevel : Option Nat) (h : s.player.out.context? = none)
    (hh : s.player.out ≠ .halted) : (endDirectWith reason byLevel s).player.out = .idle := by
  rw [endDirectWith, notifyDirectEnded_player, endDirect_out h hh]

/-! ## Selection (R81 to R87) -/

theorem requestStep_moves (k : Nat) (c : Context) (idx : Nat) : Moves a s (requestStep k c idx s) := by
  unfold requestStep
  split
  · exact loadRequest_moves _ _ _ _
  · exact .refl

theorem State.headLevel_le_level {e : Entry} {rest : List Entry} (hq : s.queue = e :: rest) : s.headLevel ≤ e.level := by
  rw [State.headLevel, hq]
  dsimp only
  split
  · exact Nat.le_refl _
  · exact Nat.zero_le _

/-- A level below that of the head is below that of an entry of the queue. -/
theorem State.exists_above {own : Nat} (h : own < s.headLevel) : ∃ e ∈ s.queue, own < e.level := by
  cases hq : s.queue with
  | nil => simp [State.headLevel, hq] at h
  | cons e rest => exact ⟨e, List.mem_cons_self, h.trans_le (State.headLevel_le_level hq)⟩

theorem startContext_moves {e : Entry} {rest : List Entry} {tag : Word16} {n : SeqId} {o : Nat} (hq : s.queue = e :: rest)
    (hask : e.ask = .play tag n o) (hout : s.player.out = .idle) (hlevel : s.stackLevel < e.level) :
    Moves a s (startContext e.level e.port tag n o { s with queue := rest }) :=
  .head (.start s e rest tag n o _ hq hask hout hlevel rfl rfl)
    (clearLatches_moves.trans ((notify_moves _ _).trans (requestStep_moves _ _ _)))

theorem offerDirect_moves {e : Entry} {rest : List Entry} (hq : s.queue = e :: rest) (hask : e.ask = .direct)
    (hout : s.player.out = .idle) (hlevel : s.stackLevel < e.level) :
    Moves a s (offerDirect e.port e.level { s with queue := rest }) :=
  .head (.offer s e rest { port := e.port, level := e.level, window := some Config.offerTime } hq hask hout hlevel rfl)
    (notify_moves _ _)

theorem resumeTop_moves (hout : s.player.out = .idle) : Moves a s (resumeTop s) := by
  unfold resumeTop
  split
  next c rest hstack =>
    exact .head (.resume s c { c with phase := some .staging } rest hstack hout rfl rfl)
      (clearLatches_moves.trans ((notifySubmitter_moves _ _).trans (requestStep_moves _ _ _)))
  next => exact .refl

theorem selectIdle_moves (n : Nat) (hout : s.player.out = .idle) : Moves a s (selectIdle n s) := by
  induction n generalizing s with
  | zero => exact .refl
  | succ n ih =>
    unfold selectIdle
    split
    next => exact resumeTop_moves hout
    next e rest hq =>
      split
      next hlevel =>
        replace hlevel := hlevel.trans_le (State.headLevel_le_level hq)
        dsimp only
        split
        next tag m o hask => exact startContext_moves hq hask hout hlevel
        next hask =>
          split
          · exact offerDirect_moves hq hask hout hlevel
          · exact .head (.spend s e rest hq hask) (ih hout)
      next => exact resumeTop_moves hout

theorem selectHead_moves (hout : s.player.out = .idle) : Moves a s (selectHead s) := selectIdle_moves _ hout

theorem pushContext_out (k : Nat) (c : Context) (cut : Bool) (level : Nat) :
    (pushContext k c cut level s).player.out = .idle := by
  unfold pushContext
  dsimp only
  rw [notifySubmitter_player]

theorem Context.yields_below {c : Context} {level : Nat} (h : c.yields level = true) :
    ∃ own, c.level = some own ∧ own < level := by
  unfold Context.yields at h
  split at h
  next own hown => exact ⟨own, hown, by simp at h; exact h.1⟩
  next => cases h

/-- A head to which a context gives way is an entry of the queue of a higher level. -/
theorem Context.yields_head {c : Context} (h : c.yields s.headLevel = true) :
    ∃ e ∈ s.queue, ∃ own, c.level = some own ∧ own < e.level := by
  obtain ⟨own, hown, hlt⟩ := Context.yields_below h
  obtain ⟨e, he, hlt'⟩ := State.exists_above hlt
  exact ⟨e, he, own, hown, hlt'⟩

theorem select_moves : Moves a s (select s) := by
  unfold select
  split
  next =>
    split
    next hout => exact selectHead_moves hout
    next k c hout =>
      split
      next hyields =>
        exact (pushContext_moves _ hout rfl rfl (Context.yields_head hyields)).trans (selectHead_moves (pushContext_out ..))
      next => exact .refl
    next k o hout =>
      split
      · exact (endDirectWith_moves _ _).trans (selectHead_moves (endDirectWith_out _ _ (by rw [hout]; rfl) (by simp [hout])))
      · exact .refl
    next k d hout =>
      split
      · exact (endDirectWith_moves _ _).trans (selectHead_moves (endDirectWith_out _ _ (by rw [hout]; rfl) (by simp [hout])))
      · exact .refl
    all_goals exact .refl
  next => exact .refl

end
end Sys2Proof.Machine

/-! PROOF. Use releases, whatever else changes; contexts and entries that are gone, as runs of moves. -/

namespace Sys2Proof.Machine

set_option Elab.async false

/-! ## Use releases, whatever else changes (R55) -/

/-- The state u with the slots, the sequences and the pool of s. -/
def State.stored (u s : State) : State := { u with slots := s.slots, seqs := s.seqs, poolFree := s.poolFree }

/-- A change that neither looks at the slots, the sequences and the pool nor touches them. -/
def Apart (f : State → State) : Prop := ∀ u s, f (u.stored s) = (f u).stored s

theorem foldl_stored {α : Type} {f : State → α → State} (h : ∀ (u s : State) (x : α), f (u.stored s) x = u.stored (f s x)) (l : List α)
    (u s : State) : l.foldl f (u.stored s) = u.stored (l.foldl f s) :=
  List.foldl_hom u.stored (H := h u)

theorem pinRelease_stored (l : List SlotId) (u s : State) : pinRelease l (u.stored s) = u.stored (pinRelease l s) := by
  have hfree : ∀ (u s : State) (n : SlotId), freeOrphan (u.stored s) n = u.stored (freeOrphan s n) := fun u s n => by
    rw [freeOrphan, freeOrphan, apply_ite u.stored]
    rfl
  rw [pinRelease, foldl_stored (fun _ _ _ => rfl), foldl_stored hfree, pinRelease]

theorem useRelease_stored (n : SeqId) (u s : State) : useRelease n (u.stored s) = u.stored (useRelease n s) := by
  have hempty (s : State) : emptySequence n (u.stored s) = u.stored (emptySequence n s) :=
    pinRelease_stored ((s.seq n).steps.map Step.slot) u
      { s.setSeq n Sequence.empty with poolFree := s.poolFree + (s.seq n).steps.length }
  rw [useRelease, useRelease]
  dsimp only
  rw [apply_ite u.stored, ← hempty]
  rfl

theorem useReleases_stored (l : List SeqId) (u s : State) : useReleases l (u.stored s) = u.stored (useReleases l s) :=
  foldl_stored (fun u s n => useRelease_stored n u s) l u s

/-- Use releases may wait until a change apart from them is done. -/
theorem Apart.useReleases {f : State → State} (h : Apart f) (l : List SeqId) (s : State) :
    f (useReleases l s) = Machine.useReleases l (f s) :=
  calc f (Machine.useReleases l s) = f (s.stored (Machine.useReleases l s)) :=
        congrArg f (useReleases_stored l s s)
    _ = Machine.useReleases l ((f s).stored s) := (h _ _).trans (useReleases_stored l _ _).symm
    _ = Machine.useReleases l (f s) := congrArg (Machine.useReleases l) (h s s).symm

theorem Apart.comp {f g : State → State} (hf : Apart f) (hg : Apart g) : Apart (fun s => f (g s)) := fun u s => by
  show f (g (u.stored s)) = _
  rw [hg, hf]

theorem Apart.notify (p : PortId) (n : Notice) : Apart (fun s => s.notify p n) := fun _ _ => rfl

theorem Apart.foldl {α : Type} {f : State → α → State} (h : ∀ x, Apart (fun s => f s x)) (l : List α) :
    Apart (fun s => l.foldl f s) := by
  induction l with
  | nil => exact fun _ _ => rfl
  | cons x l ih => exact ih.comp (h x)

theorem useReleases_append (l k : List SeqId) (s : State) :
    useReleases (l ++ k) s = useReleases k (useReleases l s) :=
  List.foldl_append

/-- The sequence that an entry holds a use of, if any. -/
def Entry.uses (e : Entry) : List SeqId :=
  match e.ask with
  | .play _ n _ => [n]
  | .direct => []

theorem releaseEntry_eq (s : State) (e : Entry) : releaseEntry s e = useReleases e.uses s := by
  unfold releaseEntry
  split
  next hask => rw [Entry.uses, hask]; rfl
  next hask => rw [Entry.uses, hask]; rfl

theorem foldl_releaseEntry (l : List Entry) (s : State) :
    l.foldl releaseEntry s = useReleases (l.flatMap Entry.uses) s := by
  induction l generalizing s with
  | nil => rfl
  | cons e l ih => rw [List.foldl_cons, ih, releaseEntry_eq, List.flatMap_cons, useReleases_append]

/-! ## The references that go with a release (R53) -/

theorem countP_names_singleton (e : Entry) (q : SeqId) : [e].countP (Entry.names q) = e.uses.count q := by
  cases hask : e.ask <;> simp [Entry.names, Entry.uses, hask, List.count_cons]

theorem countP_names (l : List Entry) (q : SeqId) : l.countP (Entry.names q) = (l.flatMap Entry.uses).count q := by
  induction l with
  | nil => rfl
  | cons e l ih =>
    rw [← List.singleton_append, List.countP_append, countP_names_singleton, ih, List.flatMap_append, List.count_append]
    simp

theorem countP_seq (l : List Context) (q : SeqId) : l.countP (fun c => c.seq == q) = (l.map Context.seq).count q := by
  simp [List.count, List.countP_map, Function.comp_def]

theorem Output.contexts_of_context {o : Output} {k : Nat} {c : Context} (h : o.context? = some (k, c)) :
    o.contexts = [c] := by
  rw [Output.contexts, h]

theorem Output.shows_of_context {o : Output} {k : Nat} {c : Context} (h : o.context? = some (k, c)) : o.shows = [] := by
  cases o <;> simp_all [Output.context?, Output.shows]

section
variable {a : Leave} {s : State}

/-! ## Contexts that are gone (R93, R94, R96) -/

/-- The running context is gone with its use. -/
theorem endContext_moves {k : Nat} {c : Context} {o : Output} (ho : o = .idle ∨ o = .halted)
    (hout : s.player.out.context? = some (k, c)) (hdark : s.player.out.inHold = true → s.dark) :
    Moves a s ((useRelease c.seq s).setOut o) := by
  have hmove := Move.release (a := a) s [c.seq] s.queue o s.player.stack (.refl _) (.refl _) (.inr ⟨ho, hdark⟩)
    (by rw [Output.shows_of_context hout]; rcases ho with rfl | rfl <;> rfl)
    (fun q => by
      have hnone : o.contexts = [] := by rcases ho with rfl | rfl <;> rfl
      simp only [holdings, Output.contexts_of_context hout, hnone, List.nil_append, List.singleton_append,
        List.countP_cons, List.count_singleton]
      omega)
  have hcomm : (useRelease c.seq s).setOut o = useReleases [c.seq] (s.setOut o) :=
    Apart.useReleases (f := fun s => s.setOut o) (fun _ _ => rfl) [c.seq] s
  rw [hcomm]
  exact .single hmove

theorem retire_moves {k : Nat} {c c₀ : Context} (hout : s.player.out.context? = some (k, c₀)) (hseq : c.seq = c₀.seq)
    (hdark : s.player.out.inHold = true → s.dark) : Moves a s (retire c s) := by
  unfold retire
  rw [hseq]
  exact (endContext_moves (.inl rfl) hout hdark).trans select_moves

theorem notifySubmitter_lights (p : Option PortId) (n : Notice) : (s.notifySubmitter p n).lights = s.lights := by
  cases p <;> rfl

theorem complete_moves {k : Nat} {c c₀ : Context} (hout : s.player.out.context? = some (k, c₀)) (hseq : c.seq = c₀.seq)
    (hdark : s.player.out.inHold = true → s.dark) : Moves a s (complete c s) := by
  unfold complete
  split
  · exact (notifyControl_moves _).trans (retire_moves (s := s.notifyControl _) hout hseq hdark)
  · refine (notifySubmitter_moves _ _).trans (retire_moves (c₀ := c₀) (k := k) ?_ hseq fun h => ?_)
    · rw [notifySubmitter_player, hout]
    · rw [notifySubmitter_player] at h
      exact dark_of_lights (notifySubmitter_lights _ _) (hdark h)

/-! ## Entries that leave the queue (R68, R69, R74) -/

/-- Entries leave the queue with their uses; the output and the stack stay. -/
theorem leaveQueue_moves {queue : List Entry} {l : List SeqId} (hqueue : queue.Sublist s.queue)
    (hrefs : ∀ q, s.queue.countP (Entry.names q) = queue.countP (Entry.names q) + l.count q) :
    Moves a s (useReleases l { s with queue := queue }) :=
  .single (.release s l queue s.player.out s.player.stack hqueue (.refl _) (.inl rfl) rfl fun q => by
    simp only [holdings, hrefs q]
    omega)

theorem removeEntry_moves (p : PortId) {e : Entry} (he : e ∈ s.queue) : Moves a s (removeEntry p e s) := by
  have hleave : Moves a s (releaseEntry { s with queue := s.queue.erase e } e) := by
    rw [releaseEntry_eq]
    refine leaveQueue_moves List.erase_sublist fun q => ?_
    rw [(List.perm_cons_erase he).countP_eq, ← List.singleton_append, List.countP_append, countP_names_singleton]
    omega
  unfold removeEntry
  dsimp only
  split
  · exact hleave
  · exact hleave.trans (notify_moves _ _)

theorem removeEntriesOf_moves (p : PortId) : Moves a s (removeEntriesOf p s) := by
  unfold removeEntriesOf
  dsimp only
  rw [foldl_releaseEntry]
  refine leaveQueue_moves List.filter_sublist fun q => ?_
  rw [← countP_names, List.countP_eq_countP_filter_add s.queue (Entry.names q) (fun e => e.port != p)]
  congr 3
  simp [bne]

theorem withdraw_moves (p : PortId) : Moves a s (withdraw p s) := by
  refine leaveQueue_moves (l := []) List.filter_sublist fun q => ?_
  rw [List.countP_eq_countP_filter_add s.queue (Entry.names q) (fun e => !e.isDirect p)]
  congr 1
  refine List.countP_eq_zero.mpr fun e he => ?_
  have hdirect := (List.mem_filter.mp he).2
  simp only [Bool.not_not, Entry.isDirect, Bool.and_eq_true, beq_iff_eq] at hdirect
  simp [Entry.names, hdirect.2]

/-! ## A suspended context that is cancelled (R94) -/

theorem leaveStack_moves {c : Context} (hc : c ∈ s.player.stack) :
    Moves a s (useRelease c.seq { s with player := { s.player with stack := s.player.stack.erase c } }) :=
  .single (.release s [c.seq] s.queue s.player.out (s.player.stack.erase c) (.refl _) List.erase_sublist (.inl rfl) rfl
    fun q => by
      simp only [holdings, List.countP_append, (List.perm_cons_erase hc).countP_eq, List.countP_cons,
        List.count_singleton]
      omega)

theorem abortSuspended_moves {c : Context} (hc : c ∈ s.player.stack) : Moves a s (abortSuspended c s) := by
  unfold abortSuspended State.notifySubmitter
  cases c.port with
  | none => exact leaveStack_moves hc
  | some p => exact (notify_moves p _).trans (leaveStack_moves (s := s.notify p _) hc)

end
end Sys2Proof.Machine

/-! PROOF. Staging, the end of a gap and what holds the output after a selection, as runs of moves. -/

namespace Sys2Proof.Machine

set_option Elab.async false

section
variable {a : Leave} {s : State}

/-! ## The holding number after a selection (R82, R95) -/

theorem startContext_number (level : Nat) (p : PortId) (tag : Word16) (n : SeqId) (o : Nat) :
    (startContext level p tag n o s).player.out.number? = some (s.player.lastNumber + 1) :=
  congrArg (fun u : State => u.player.out.number?) (startContext_others level p tag n o s)

theorem resumeContext_number (c : Context) :
    (resumeContext c s).player.out.number? = some (s.player.lastNumber + 1) := by
  have hplayer := congrArg State.player (resumeContext_others c s)
  rw [notifySubmitter_player] at hplayer
  exact congrArg (fun x : Player => x.out.number?) hplayer

theorem resumeTop_number (hout : s.player.out = .idle) {k : Nat} (h : (resumeTop s).player.out.number? = some k) :
    s.player.lastNumber < k := by
  unfold resumeTop at h
  split at h
  · rw [resumeContext_number] at h
    exact Nat.lt_of_lt_of_eq (Nat.lt_succ_self _) (Option.some.inj h)
  · rw [hout] at h
    cases h

/-- Whatever selection puts in an empty place has a new holding number. -/
theorem selectIdle_number (n : Nat) (hout : s.player.out = .idle) {k : Nat}
    (h : (selectIdle n s).player.out.number? = some k) : s.player.lastNumber < k := by
  induction n generalizing s with
  | zero =>
    rw [selectIdle, hout] at h
    cases h
  | succ n ih =>
    unfold selectIdle at h
    split at h
    next => exact resumeTop_number hout h
    next e rest hq =>
      split at h
      next =>
        dsimp only at h
        split at h
        · rw [startContext_number] at h
          exact Nat.lt_of_lt_of_eq (Nat.lt_succ_self _) (Option.some.inj h)
        · split at h
          · exact Nat.lt_of_lt_of_eq (Nat.lt_succ_self _) (Option.some.inj h)
          · exact (Nat.lt_succ_self _).trans (ih (s := spendNumber { s with queue := rest }) hout h)
      next => exact resumeTop_number hout h

theorem pushContext_lastNumber (k : Nat) (c : Context) (cut : Bool) (level : Nat) :
    (pushContext k c cut level s).player.lastNumber = s.player.lastNumber := by
  unfold pushContext
  dsimp only
  rw [notifySubmitter_player, silence_player]

theorem endDirect_lastNumber : (endDirect s).player.lastNumber = s.player.lastNumber := by
  unfold endDirect
  split
  next k o _ => exact (congrArg Player.lastNumber (discard_player k) :)
  · dsimp only [State.setOut]
    rw [pinRelease_player, discard_player]
    split <;> rfl
  · rfl

theorem endDirectWith_lastNumber (reason : EndReason) (byLevel : Option Nat) :
    (endDirectWith reason byLevel s).player.lastNumber = s.player.lastNumber := by
  rw [endDirectWith, notifyDirectEnded_player, endDirect_lastNumber]

/-- Selection changes nothing, or what holds the output afterwards has a new holding number. -/
theorem select_eq_or_number : select s = s ∨ ∀ k, (select s).player.out.number? = some k → s.player.lastNumber < k := by
  unfold select
  split
  next =>
    split
    next hout => exact .inr fun k h => selectIdle_number _ hout h
    next k c hout =>
      split
      · exact .inr fun m h => pushContext_lastNumber k c _ _ ▸ selectIdle_number _ (pushContext_out ..) h
      · exact .inl rfl
    next k o hout =>
      split
      · exact .inr fun m h => endDirectWith_lastNumber .preempted _ ▸
          selectIdle_number _ (endDirectWith_out _ _ (by rw [hout]; rfl) (by simp [hout])) h
      · exact .inl rfl
    next k d hout =>
      split
      · exact .inr fun m h => endDirectWith_lastNumber .preempted _ ▸
          selectIdle_number _ (endDirectWith_out _ _ (by rw [hout]; rfl) (by simp [hout])) h
      · exact .inl rfl
    all_goals exact .inl rfl
  next => exact .inl rfl

/-! ## The running context goes on (R88 to R92) -/

/-- The context is the one that holds the output, unless a run may write back one of an earlier holding. -/
def Current (a : Leave) (s : State) (c : Context) : Prop := a.stale ∨ ∃ k, s.player.out.context? = some (k, c)

theorem setContext_moves {c : Context} (c' : Context) (hc : Current a s c) (hseq : c'.seq = c.seq) (hlevel : c'.level = c.level)
    (hhold : c.phase = some .hold → c'.phase = some .hold ∨ s.dark) : Moves a s (s.setContext c') := by
  obtain hstale | ⟨k, hout⟩ := hc
  · exact .single (.stale s c' hstale)
  · exact .single (.context s k c c' hout hseq hlevel hhold)

theorem Output.context_withContext {o : Output} {k : Nat} {c : Context} (c' : Context) (h : o.context? = some (k, c)) :
    (o.withContext c').context? = some (k, c') := by
  cases o <;> simp_all [Output.context?, Output.withContext]

theorem Current.setContext {c : Context} (c' : Context) (hc : Current a s c) : Current a (s.setContext c') c' :=
  hc.imp_right fun ⟨k, hout⟩ => ⟨k, Output.context_withContext c' hout⟩

theorem beginSwap_moves {k : Nat} {c : Context} (x : Step) (hc : Current a s c) : Moves a s (beginSwap k c x s) :=
  (setContext_moves { c with phase := some .hold } hc rfl rfl fun _ => .inl rfl).trans (swapRequest_moves _ _ _)

theorem endStaging_moves {k : Nat} {c : Context} (hc : Current a s c) (hphase : c.phase ≠ some .hold) :
    Moves a s (endStaging k c s) := by
  unfold endStaging
  split
  next => exact .refl
  next x _ =>
    split
    next => exact beginSwap_moves x hc
    next src _ =>
      split
      next => exact (consumeLatch_moves src).trans ((beginSwap_moves (s := consumeLatch src s) x hc).trans select_moves)
      next hlatch =>
        refine (setContext_moves { c with phase := some .waiting } hc rfl rfl fun h => absurd h hphase).trans ?_
        exact (makeWait_moves _ (by simpa using hlatch)).trans select_moves

theorem stageNext_moves {k : Nat} {c : Context} (hc : Current a s c) (hphase : c.phase ≠ some .hold) :
    Moves a s (stageNext k c s) := by
  unfold stageNext
  split
  · exact endStaging_moves hc hphase
  · have hlate : Moves a s (s.setContext { c with late := min 65535 (c.late + 1) }) :=
      setContext_moves _ hc rfl rfl fun h => absurd h hphase
    dsimp only
    split
    · exact hlate
    · exact hlate.trans (requestStep_moves _ _ _)

/-- The staging after a selection is that of the same holding, unless a run may take a later one for it. -/
theorem stageIfHeld_moves {k : Nat} {c : Context} (hc : s.player.out.number? = some k → Current a s c)
    (hphase : c.phase ≠ some .hold) :
    Moves a s (if s.player.out.number? = some k then stageNext k c s else s) := by
  split
  next h => exact stageNext_moves (hc h) hphase
  next => exact .refl

theorem Output.inHold_of_context {o : Output} {k : Nat} {c : Context} (h : o.context? = some (k, c)) :
    o.inHold = (c.phase == some .hold) := by
  cases o <;> simp_all [Output.context?, Output.inHold]

/-- After a selection the holder of number k is the context it was, if k had been given before. -/
theorem Current.after_select {k : Nat} {c : Context} (hout : s.player.out.context? = some (k, c))
    (hnumber : a.stale ∨ k ≤ s.player.lastNumber) (h : (select s).player.out.number? = some k) :
    Current a (select s) c := by
  obtain heq | hnew := select_eq_or_number (s := s)
  · exact .inr ⟨k, by rw [heq]; exact hout⟩
  · exact hnumber.imp_right fun hle => absurd hle (Nat.not_le.mpr (hnew k h))

theorem endGap_moves {k : Nat} {c : Context} {c₀ : Context} (hout : s.player.out.context? = some (k, c₀))
    (hseq : c.seq = c₀.seq) (hlevel : c.level = c₀.level) (hphase : c₀.phase ≠ some .hold)
    (hnumber : a.stale ∨ k ≤ s.player.lastNumber) : Moves a s (endGap k c s) := by
  unfold endGap
  split
  next => exact complete_moves hout hseq fun h => by rw [Output.inHold_of_context hout, beq_iff_eq] at h; exact absurd h hphase
  next idx remaining _ =>
    dsimp only
    have hc : Current a s c₀ := .inr ⟨k, hout⟩
    refine (setContext_moves { c with idx := idx, remaining := remaining, phase := some .staging } hc hseq hlevel
      fun h => absurd h hphase).trans (select_moves.trans (stageIfHeld_moves ?_ (by simp)))
    exact Current.after_select (Output.context_withContext _ hout) hnumber

/-! ## The end of a hold (R91) -/

theorem Output.withContext_withContext (o : Output) (c c' : Context) :
    (o.withContext c).withContext c' = o.withContext c' := by
  cases o <;> rfl

theorem State.setContext_setContext (c c' : Context) : (s.setContext c).setContext c' = s.setContext c' :=
  congrArg s.setOut (Output.withContext_withContext s.player.out c c')

/-- The push of a context does not ask what stood in its place. -/
theorem pushContext_setOut (k : Nat) (c : Context) (cut : Bool) (level : Nat) (o : Output) :
    pushContext k c cut level (s.setOut o) = pushContext k c cut level s := by
  have hdiscard : ∀ u : State, discard k (u.setOut o) = (discard k u).setOut o := fun u => by
    unfold discard
    dsimp only [State.setOut]
    split
    · split <;> rfl
    · rfl
  have hsilence : silence k (s.setOut o) = (silence k s).setOut o :=
    congrArg lightsOff (hdiscard (cancelWait (stopTimers s)))
  unfold pushContext
  rw [hsilence]
  rfl

/-- The channels stay on past a hold only for a TIMED step ahead whose plane is LOADED. -/
theorem keptChannels_eq_some {k : Nat} {c : Context} {x : Step} {mask : Mask} (h : keptChannels k c x s = some mask) :
    ∃ idx remaining y, c.next (s.seq c.seq).steps.length = some (idx, remaining) ∧ stepOf s c idx = some y
      ∧ x.gap = 0 ∧ s.link.holds k idx = true ∧ y.advance = .timed := by
  simp only [keptChannels, Option.bind_eq_bind, Option.bind_eq_some_iff] at h
  obtain ⟨idx, hahead, y, hy, hkept⟩ := h
  obtain ⟨⟨idx', remaining⟩, hnext, rfl⟩ := Option.map_eq_some_iff.mp hahead
  split at hkept
  next hall => exact ⟨idx', remaining, y, hnext, hy, hall⟩
  next => cases hkept

end
end Sys2Proof.Machine

/-! PROOF. The end of a hold, a swapped step, and faults, as runs of moves. -/

namespace Sys2Proof.Machine

set_option Elab.async false

section
variable {a : Leave} {s : State}

/-- The end of a hold with a gap of 0 and shared channels: either the step ahead is on display at once, or a higher head takes the
output, and the context is pushed from the hold. -/
theorem endGap_lit_moves {k : Nat} {c : Context} {y : Step} {idx : Nat} {remaining : Remaining}
    (hout : s.player.out.context? = some (k, c)) (hphase : c.phase = some .hold)
    (hnumber : a.stale ∨ k ≤ s.player.lastNumber)
    (hnext : c.next (s.seq c.seq).steps.length = some (idx, remaining)) (hy : stepOf s c idx = some y)
    (hheld : s.link.holds k idx = true) (htimed : y.advance = .timed) :
    Moves a s (endGap k { c with phase := some .gap } (s.setContext { c with phase := some .gap })) := by
  have hgap : endGap k { c with phase := some .gap } (s.setContext { c with phase := some .gap }) =
      let c' := { c with idx := idx, remaining := remaining, phase := some .staging }
      let v := select (s.setContext c')
      if v.player.out.number? = some k then stageNext k c' v else v := by
    unfold endGap
    have hnext' : Context.next { c with phase := some .gap } ((s.setContext { c with phase := some .gap }).seq c.seq).steps.length
        = some (idx, remaining) := hnext
    rw [hnext']
    simp only [State.setContext_setContext]
  rw [hgap]
  dsimp only
  generalize hc' : ({ c with idx := idx, remaining := remaining, phase := some .staging } : Context) = c'
  have hheldOut := Output.context_withContext c' hout
  have hstaged : Moves a s (stageNext k c' (s.setContext c')) := by
    have hswap : stageNext k c' (s.setContext c') =
        swapRequest { who := c.holder, number := k } idx y.slot
          (s.setContext { c with idx := idx, remaining := remaining, phase := some .hold }) := by
      subst hc'
      have hy' : stepOf (s.setContext { c with idx := idx, remaining := remaining, phase := some .staging })
          { c with idx := idx, remaining := remaining, phase := some .staging } idx = some y := hy
      rw [stageNext, if_pos (by exact hheld), endStaging, hy']
      simp only [htimed, Advance.source, beginSwap, State.setContext_setContext]
      rfl
    rw [hswap]
    exact (setContext_moves { c with idx := idx, remaining := remaining, phase := some .hold } (.inr ⟨k, hout⟩) rfl rfl
      fun _ => .inl rfl).trans (swapRequest_moves _ _ _)
  by_cases heq : select (s.setContext c') = s.setContext c'
  · rw [heq]
    split
    next => exact hstaged
    next h =>
      have hsame : (s.setContext c').player.out.number? = some k := by
        cases hso : s.player.out <;> simp_all [State.setContext, State.setOut, Output.context?, Output.withContext, Output.number?]
      exact absurd hsame h
  · have hselect : Moves a s (select (s.setContext c')) := by
      cases hso : s.player.out with
      | fallback m d => 
        exact absurd (select_fallback (s := s.setContext c') (k := m) (c := c') (by simp [State.setContext, State.setOut, hso, Output.withContext])) heq
      | running m d =>
        have hu : (s.setContext c').player.out = .running m c' := by simp [State.setContext, State.setOut, hso, Output.withContext]
        have hup : (s.setContext c').player.linkUp = true := by
          by_contra hdown
          exact heq (select_linkDown (by simpa using hdown))
        rw [select_running hup hu] at heq ⊢
        split at heq
        next hyields =>
          rw [if_pos hyields, State.setContext, pushContext_setOut]
          obtain ⟨rfl, rfl⟩ : m = k ∧ d = c := by simpa [hso, Output.context?] using hout
          obtain ⟨e, he, own, hown, hlt⟩ := Context.yields_head hyields
          subst hc'
          refine .trans ?_ (selectHead_moves (pushContext_out ..))
          exact pushContext_moves _ hso rfl rfl ⟨e, he, own, hown, hlt⟩
        next => exact absurd rfl heq
      | idle | halted | offering _ _ | direct _ _ => simp [hso, Output.context?] at hout
    refine hselect.trans (stageIfHeld_moves (fun h => ?_) (by simp [← hc']))
    exact Current.after_select hheldOut hnumber h

theorem endHold_moves {k : Nat} {c : Context} (hout : s.player.out.context? = some (k, c)) (hphase : c.phase = some .hold)
    (hnumber : a.stale ∨ k ≤ s.player.lastNumber) : Moves a s (endHold k c s) := by
  unfold endHold
  split
  next => exact .refl
  next x hx =>
    dsimp only
    have hlit : (stopTimers s).player.out.inHold = true := by
      rw [show (stopTimers s).player.out = s.player.out from rfl, Output.inHold_of_context hout]
      simpa using hphase
    cases hkept : keptChannels k c x (stopTimers s) with
    | some mask =>
      rw [endLights, hkept]
      obtain ⟨idx, remaining, y, hnext, hy, hgap, hheld, htimed⟩ := keptChannels_eq_some hkept
      rw [if_pos hgap]
      exact stopTimers_moves.trans ((lightRequest_moves _ mask hlit).trans
        (endGap_lit_moves (s := lightRequest _ mask (stopTimers s)) hout hphase hnumber hnext hy hheld htimed))
    | none =>
      rw [endLights, hkept]
      have hdark : Moves a s ((lightsOff (stopTimers s)).setContext { c with phase := some .gap }) :=
        stopTimers_moves.trans (lightsOff_moves.trans (setContext_moves _ (.inr ⟨k, hout⟩) rfl rfl fun _ => .inr lightsOff_dark))
      split
      next =>
        exact hdark.trans (endGap_moves (Output.context_withContext _ hout) rfl rfl (by simp) hnumber)
      next =>
        refine hdark.tail ?_
        exact .notes _ none (some (x.gap * Config.holdUnit)) s.player.faultRecord s.player.haltRecord s.player.linkUp

/-! ## A step on display (R90) -/

theorem showStep_moves {k : Nat} {c : Context} (hout : s.player.out.context? = some (k, c)) (hphase : c.phase = some .hold) :
    Moves a s (showStep k c s) := by
  have hlit : (syncPulse s).player.out.inHold = true := by
    rw [show (syncPulse s).player.out = s.player.out from rfl, Output.inHold_of_context hout]
    simpa using hphase
  cases hx : stepOf s c c.idx with
  | none =>
    rw [showStep, hx]
  | some x =>
    have hshown : Moves a s (shownStep k c x s) := by
      refine syncPulse_moves.trans ((lightRequest_moves { who := c.holder, number := k } x.mask hlit).trans
        ((setContext_moves (s := lightRequest { who := c.holder, number := k } x.mask (syncPulse s)) { c with cut := false } (.inr ⟨k, hout⟩) rfl rfl
          fun h => .inl h).tail ?_))
      exact .notes _ (some (x.hold * Config.holdUnit)) s.player.gapTimer s.player.faultRecord s.player.haltRecord
        s.player.linkUp
    cases hahead : c.ahead (s.seq c.seq).steps.length with
    | none => rw [showStep_last hx hahead]; exact hshown
    | some j => rw [showStep_ahead hx hahead]; exact hshown.trans (requestStep_moves _ _ _)

/-! ## Faults (R95 to R99) -/

theorem useRaise_getD_player (n : SeqId) : ((useRaise n s).getD s).player = s.player := by
  unfold useRaise
  split <;> rfl

theorem startFallback_moves {n : SeqId} (kind : FaultKind) (hout : s.player.out = .idle) (hd : s.player.designated = some n) :
    Moves a s (startFallback n kind s) := by
  unfold startFallback
  dsimp only
  refine .trans (.single ?_) (clearLatches_moves.trans ((notifyControl_moves _).trans (requestStep_moves _ _ _)))
  have hmove := Move.fallback (a := a) s n
    { seq := n, port := none, tag := 0xFFFF, level := none, idx := 0
      remaining := passes (((useRaise n s).getD s).seq n).repeatCount, phase := some .staging, cut := false, late := 0 }
    hout hd rfl
  rw [← useRaise_getD_player (s := s) n] at hmove
  exact hmove

theorem afterFault_moves (kind : FaultKind) (hout : s.player.out = .idle) : Moves a s (afterFault kind s) := by
  unfold afterFault
  split
  next n hd =>
    split
    · exact startFallback_moves kind hout hd
    · exact select_moves
  next => exact select_moves

theorem setRecord_moves (r : FaultRecord) : Moves a s (s.setRecord r) :=
  .single (.notes s s.player.holdTimer s.player.gapTimer (some r) s.player.haltRecord s.player.linkUp)

theorem blankRequest_player : (blankRequest s).player = s.player := (congrArg State.player (blankRequest_others s) :)

theorem halt_moves {k : Nat} {c : Context} (r : FaultRecord) (hout : s.player.out.context? = some (k, c)) :
    Moves a s (halt k c r s) := by
  unfold halt
  dsimp only
  refine (silence_moves k).trans (blankRequest_moves.trans (.head (.notes _ (blankRequest (silence k s)).player.holdTimer
    (blankRequest (silence k s)).player.gapTimer (some r) (blankRequest (silence k s)).player.faultRecord
    (blankRequest (silence k s)).player.linkUp) (.trans (endContext_moves (k := k) (c := c) (.inr rfl) ?_ fun _ => ?_)
    (notifyControl_moves _))))
  · show (blankRequest (silence k s)).player.out.context? = some (k, c)
    rw [blankRequest_player, silence_player]
    exact hout
  · exact dark_of_lights (congrArg State.lights (blankRequest_others (silence k s)) :) (silence_dark k)

theorem endDirect_out_of_number {k : Nat} (h : s.player.out.number? = some k) (hctx : s.player.out.context? = none) :
    (endDirect s).player.out = .idle :=
  endDirect_out hctx fun hh => by rw [hh] at h; cases h

theorem faultHolder_moves (f : RaisedFault) : Moves a s (faultHolder f s) := by
  unfold faultHolder
  split
  next => exact .refl
  next r hr =>
    split
    next k c hout =>
      dsimp only
      refine (silence_moves k).trans ((setRecord_moves r).trans ((notifyControl_moves _).trans
        ((notifySubmitter_moves _ _).trans (.trans (endContext_moves (k := k) (c := c) (.inl rfl) ?_ fun _ => ?_)
          (afterFault_moves _ rfl)))))
      · rw [notifySubmitter_player]
        show (silence k s).player.out.context? = some (k, c)
        rw [silence_player, hout]
        rfl
      · exact dark_of_lights (notifySubmitter_lights _ _) (silence_dark (s := s) k)
    next k c hout => exact halt_moves r (by rw [hout]; rfl)
    next hrunning hfallback =>
      dsimp only
      refine endDirect_moves.trans (lightsOff_moves.trans ((setRecord_moves r).trans ((notifyControl_moves _).trans
        ((notifyDirectEnded_moves _ _ _).trans (afterFault_moves _ ?_)))))
      rw [notifyDirectEnded_player]
      show (endDirect s).player.out = .idle
      refine endDirect_out ?_ fun hh => by rw [hh] at hr; cases hr
      cases hout : s.player.out with
      | running k c => exact absurd hout (hrunning k c)
      | fallback k c => exact absurd hout (hfallback k c)
      | idle | halted | offering _ _ | direct _ _ => rfl

theorem takeFault_moves (f : RaisedFault) : Moves a s (takeFault f s) := by
  unfold takeFault
  split
  · exact faultHolder_moves f
  · exact .refl

theorem takeReport_moves (available : Bool) (rf : ReportFault) : Moves a s (takeReport available rf s) := by
  have hup : Moves a s { s with player := { s.player with linkUp := available } } :=
    .single (.notes s s.player.holdTimer s.player.gapTimer s.player.faultRecord s.player.haltRecord available)
  unfold takeReport
  dsimp only
  split
  · exact hup.trans select_moves
  · split
    · exact hup
    · exact hup.trans (takeFault_moves _)
    · split
      · exact hup.trans (faultHolder_moves _)
      · exact hup

end
end Sys2Proof.Machine

/-! PROOF. Shows, the player's requests and RESET_PLAYER, as runs of moves. -/

namespace Sys2Proof.Machine

set_option Elab.async false

section
variable {a : Leave} {s : State}

/-! ## The checks before an action (R165, R172) -/

theorem ofLength_moves {n : Nat} {act : List Byte → State → State × Answer} {body : List Byte}
    (h : Moves a s (act body s).1) : Moves a s (ofLength n act body s).1 := by
  unfold ofLength
  split
  · exact h
  · exact .refl

theorem controlOnly_moves {p : PortId} {act : List Byte → State → State × Answer} {body : List Byte}
    (h : Moves a s (act body s).1) : Moves a s (controlOnly p act body s).1 := by
  unfold controlOnly
  split
  · exact h
  · exact .refl

/-! ## Shows (R138 to R140) -/

theorem swapHead_moves : Moves a s (swapHead s) := by
  unfold swapHead
  split
  next k d hout =>
    split
    next x rest hshows =>
      split
      next hloaded =>
        refine .head (.shows s k d ({ x with stage := .swapping } :: rest) d.timer hout (by simp [hshows]) fun h => ?_)
          (swapRequest_moves _ _ _)
        simp [hout, Output.inHold, hshows, hloaded] at h
      next => exact .refl
    next => exact .refl
  next => exact .refl

theorem joinShow_moves {t : State} {k : Nat} {d : Direct} {x : Show} (hout : s.player.out = .direct k d)
    (ht : pinRaise [x.slot] s = .ok t) : Moves a s (joinShow k d x t) := by
  unfold joinShow
  split
  · exact .head (.joinShow s t k d { x with stage := .staging } hout ht) (loadRequest_moves _ _ _ _)
  · exact .single (.joinShow s t k d x hout ht)

theorem showLoaded_moves {k : Nat} {d : Direct} (idx : Nat) (hout : s.player.out = .direct k d) :
    Moves a s (showLoaded k d idx s) := by
  unfold showLoaded
  dsimp only
  refine .head (.shows s k d _ d.timer hout ?_ fun h => ?_) swapHead_moves
  · rw [List.map_map]
    refine List.map_congr_left fun x _ => ?_
    dsimp only [Function.comp_apply]
    split <;> rfl
  · rw [hout] at h
    cases hshows : d.shows <;> simp_all [Output.inHold]

theorem showSwapped_moves {k : Nat} {d : Direct} {x : Show} {rest : List Show} (hout : s.player.out = .direct k d)
    (hshows : d.shows = x :: rest) : Moves a s (showSwapped k d x rest s) := by
  have hon (shows : List Show) (hslots : shows.map Show.slot = rest.map Show.slot) :
      Moves a s ((lightRequest (d.ref k) x.mask (syncPulse s)).setOut (.direct k
        { d with timer := some (x.hold * Config.holdUnit), shows := { x with stage := .hold } :: shows })) := by
    refine syncPulse_moves.trans (.head (.shows (syncPulse s) k d ({ x with stage := .hold } :: shows)
      (some (x.hold * Config.holdUnit)) hout (by simp [hshows, hslots]) fun _ => rfl) ?_)
    exact lightRequest_moves _ _ rfl
  unfold showSwapped
  dsimp only
  split
  next y more =>
    split
    · exact (hon _ (by simp)).trans (loadRequest_moves _ _ _ _)
    · exact hon _ rfl
  next => exact hon [] rfl

theorem endShow_moves : Moves a s (endShow s) := by
  unfold endShow
  split
  next k d hout =>
    split
    next x rest hshows =>
      have hend : Moves a s ((pinRelease [x.slot] ((lightsOff s).notify d.port (.showDone x.number x.slot))).setOut
          (.direct k { d with shows := rest, timer := none })) :=
        lightsOff_moves.trans ((notify_moves _ _).tail (.endShow ((lightsOff s).notify d.port (.showDone x.number x.slot))
          k d x rest hout hshows fun _ => dark_of_lights rfl (lightsOff_dark (s := s))))
      dsimp only
      split
      · exact hend.trans (select_moves.trans swapHead_moves)
      · exact hend.trans select_moves
    next => exact .refl
  next => exact .refl

theorem acceptDirect_moves (p : PortId) (body : List Byte) : Moves a s (acceptDirect p body s).1 := by
  refine ofLength_moves ?_
  split
  next k o hout =>
    split
    next hp => exact clearLatches_moves.tail (hp ▸ .accept (clearLatches s) k o hout)
    next => exact .refl
  next => exact .refl

theorem showPlane_moves (p : PortId) (body : List Byte) : Moves a s (showPlane p body s).1 := by
  refine ofLength_moves ?_
  split
  next k d hout =>
    split
    · split
      · exact .refl
      next x _ =>
        split
        · exact .refl
        · split
          · exact .refl
          · split
            · exact .refl
            next t ht => exact joinShow_moves hout ht
    · exact .refl
  next => exact .refl

theorem releaseDirect_moves (p : PortId) (body : List Byte) : Moves a s (releaseDirect p body s).1 := by
  refine ofLength_moves ?_
  split
  · exact withdraw_moves p
  · split
    · split
      · exact endDirect_moves
      · exact .refl
    · split
      · exact endDirect_moves
      · exact .refl
    · exact .refl

theorem selectForHead_moves : Moves a s (selectForHead s) := by
  unfold selectForHead
  split
  · split
    · exact select_moves
    · exact .refl
  · exact .refl

/-! ## The player's requests and events (R72, R94 to R103) -/

theorem abortNotice_moves (k : Nat) (c : Context) (reason : EndReason) : Moves a s (abortNotice k c reason s) := by
  unfold abortNotice
  dsimp only
  split
  · exact (silence_moves k).trans (notifyControl_moves _)
  · exact (silence_moves k).trans (notifySubmitter_moves _ _)

theorem abortNotice_player (k : Nat) (c : Context) (reason : EndReason) :
    (abortNotice k c reason s).player = { s.player with holdTimer := none, gapTimer := none } := by
  unfold abortNotice
  dsimp only
  split
  · exact silence_player k
  · rw [notifySubmitter_player, silence_player]

theorem abortNotice_dark (k : Nat) (c : Context) (reason : EndReason) : (abortNotice k c reason s).dark := by
  unfold abortNotice
  dsimp only
  split
  · exact dark_of_lights rfl (silence_dark (s := s) k)
  · exact dark_of_lights (notifySubmitter_lights _ _) (silence_dark (s := s) k)

theorem abortRunning_moves {k : Nat} {c : Context} (hout : s.player.out.context? = some (k, c)) :
    Moves a s (abortRunning k c s) := by
  unfold abortRunning
  refine (abortNotice_moves k c .cancelled).trans (endContext_moves (k := k) (.inl rfl) ?_ fun _ => abortNotice_dark k c _)
  rw [abortNotice_player]
  exact hout

theorem cancelSuspended_moves (p : PortId) (tag : Word16) : Moves a s (cancelSuspended p tag s).1 := by
  unfold cancelSuspended
  split
  next c hc => exact abortSuspended_moves (List.mem_of_find?_eq_some hc)
  next => exact .refl

theorem cancelContext_moves (body : List Byte) : Moves a s (cancelContext body s).1 := by
  unfold cancelContext
  split
  · exact .refl
  · split
    next k c hout =>
      split
      · exact abortRunning_moves (by rw [hout]; rfl)
      · exact cancelSuspended_moves _ _
    next => exact cancelSuspended_moves _ _

theorem cancelFallback_moves (body : List Byte) : Moves a s (cancelFallback body s).1 := by
  unfold cancelFallback
  split
  next k c hout => exact abortRunning_moves (by rw [hout]; rfl)
  next => exact .refl

theorem selectIfIdle_moves : Moves a s (selectIfIdle s) := by
  unfold selectIfIdle
  split
  · exact select_moves
  · exact .refl

theorem setHoldLevel_moves (p : PortId) (body : List Byte) (h : a.holdLevel) : Moves a s (setHoldLevel p body s).1 := by
  refine ofLength_moves (controlOnly_moves ?_)
  dsimp only
  split
  · exact .refl
  · exact .single (.holdLevel s _ h)

theorem useRaise_player {t : State} {n : SeqId} (h : useRaise n s = some t) : t.player = s.player := by
  obtain ⟨-, rfl⟩ := useRaise_eq h
  rfl

theorem setFallback_moves (p : PortId) (body : List Byte) (h : a.designate) : Moves a s (setFallback p body s).1 := by
  refine ofLength_moves (controlOnly_moves ?_)
  dsimp only
  split
  · exact .single (.designate s s none h rfl)
  · split
    · exact .refl
    next n _ =>
      split
      · exact .refl
      · split
        · exact .refl
        next t ht => exact .single (.designate s t (some n) h ht)

/-- The end of a halt leaves nothing holding the output. -/
theorem clearHalt_moves (p : PortId) (body : List Byte) : Moves a s (clearHalt p body s).1 := by
  refine ofLength_moves (controlOnly_moves ?_)
  dsimp only
  split
  next hout =>
    refine .head (.release s [] s.queue .idle s.player.stack (.refl _) (.refl _) (.inr ⟨.inl rfl, ?_⟩) ?_ fun q => ?_)
      (.single (.notes _ s.player.holdTimer s.player.gapTimer s.player.faultRecord none s.player.linkUp))
    · rw [hout]
      nofun
    · rw [hout]
      rfl
    · rw [hout]
      rfl
  next => exact .refl

/-! ## RESET_PLAYER (R101) -/

theorem foldl_keeps {α β : Type} {f : State → α → State} (g : State → β) (h : ∀ s x, g (f s x) = g s) (l : List α) :
    ∀ s, g (l.foldl f s) = g s := by
  induction l with
  | nil => exact fun _ => rfl
  | cons x l ih => exact fun s => (ih _).trans (h s x)

/-- A removed entry's submitter is told of the player reset. -/
def tellReset (s : State) (e : Entry) : State := s.notify e.port (.entryRemoved .playerReset e)

/-- The releases of a player reset's entries may all come before its notices. -/
theorem foldl_resetEntry (l : List Entry) :
    l.foldl resetEntry s = l.foldl tellReset (useReleases (l.flatMap Entry.uses) s) := by
  induction l generalizing s with
  | nil => rfl
  | cons e l ih =>
    have hcomm := Apart.useReleases (f := fun s => tellReset s e) (fun _ _ => rfl) (l.flatMap Entry.uses)
      (useReleases e.uses s)
    rw [List.foldl_cons, ih, List.foldl_cons, List.flatMap_cons, useReleases_append, hcomm, resetEntry, releaseEntry_eq]
    rfl

/-- What a player reset does once its holder, its contexts and its references have gone: the notices of its entries, the
channels, the link and the latches. -/
def resetBlocks (entries : List Entry) (s : State) : State :=
  clearLatches (blankRequest (restartLink (resetLights (entries.foldl tellReset s))))

/-- What a player reset leaves of the player, all but the hold level and the designation. -/
def clearPlayer (s : State) : State :=
  { s with player := { s.player with
      out := .idle, stack := [], holdTimer := none, gapTimer := none, faultRecord := none, haltRecord := none } }

theorem restartLink_apart : Apart restartLink := fun u s => by
  unfold restartLink
  rw [apply_ite (fun t : State => t.stored s)]
  rfl

theorem blankRequest_apart : Apart blankRequest := fun u s => by
  unfold blankRequest
  rw [apply_ite (fun t : State => t.stored s)]
  rfl

theorem resetBlocks_apart (entries : List Entry) : Apart (resetBlocks entries) := by
  have htell : Apart (fun s => entries.foldl tellReset s) := .foldl (fun _ => Apart.notify _ _) entries
  have hlights : Apart resetLights := fun _ _ => rfl
  have hlatches : Apart clearLatches := fun _ _ => rfl
  exact hlatches.comp (blankRequest_apart.comp (restartLink_apart.comp (hlights.comp htell)))

theorem resetBlocks_setQueue (entries queue : List Entry) :
    resetBlocks entries { s with queue := queue } = { resetBlocks entries s with queue := queue } := by
  have htell : entries.foldl tellReset { s with queue := queue } = { entries.foldl tellReset s with queue := queue } :=
    List.foldl_hom (fun u : State => { u with queue := queue }) (H := fun _ _ => rfl)
  have hrestart : ∀ u : State, restartLink { u with queue := queue } = { restartLink u with queue := queue } := fun u => by
    unfold restartLink
    dsimp only
    split <;> rfl
  have hblank : ∀ u : State, blankRequest { u with queue := queue } = { blankRequest u with queue := queue } := fun u => by
    unfold blankRequest
    dsimp only
    split <;> rfl
  rw [resetBlocks, htell]
  exact congrArg clearLatches ((congrArg blankRequest (hrestart (resetLights (entries.foldl tellReset s)))).trans (hblank _))

theorem resetBlocks_moves (entries : List Entry) : Moves a s (resetBlocks entries s) :=
  (Moves.foldl (fun _ _ => notify_moves _ _) entries s).trans (resetLights_moves.trans (restartLink_moves.trans
    (blankRequest_moves.trans clearLatches_moves)))

theorem restartLink_others : { restartLink s with ports := s.ports, link := s.link, fromLink := s.fromLink } = s := by
  unfold restartLink
  split <;> rfl

theorem restartLink_player : (restartLink s).player = s.player := (congrArg State.player restartLink_others :)

theorem restartLink_lights : (restartLink s).lights = s.lights := (congrArg State.lights restartLink_others :)

theorem blankRequest_lights : (blankRequest s).lights = s.lights := (congrArg State.lights (blankRequest_others s) :)

theorem resetBlocks_dark (entries : List Entry) : (resetBlocks entries s).dark := by
  have hdark : ∀ u : State, (resetLights u).dark := fun u c => by simp [resetLights, off_on]
  exact dark_of_lights (blankRequest_lights.trans restartLink_lights) (hdark (entries.foldl tellReset s))

theorem resetBlocks_player (entries : List Entry) : (resetBlocks entries s).player = s.player :=
  calc (resetBlocks entries s).player = (restartLink (resetLights (entries.foldl tellReset s))).player :=
        blankRequest_player
    _ = (entries.foldl tellReset s).player := restartLink_player
    _ = s.player := foldl_keeps (f := tellReset) State.player (fun _ _ => rfl) entries s

theorem resetHolder_moves : Moves a s (resetHolder s) := by
  unfold resetHolder
  split
  · exact abortNotice_moves _ _ _
  · exact abortNotice_moves _ _ _
  · exact endDirectWith_moves _ _

/-- The holder that a player reset has silenced is the running context, or there is none. -/
theorem resetHolder_out :
    (resetHolder s).player.out.context? = s.player.out.context? ∧ (resetHolder s).player.out.shows = [] := by
  unfold resetHolder
  split
  next k c hout => rw [abortNotice_player, hout]; exact ⟨rfl, rfl⟩
  next k c hout => rw [abortNotice_player, hout]; exact ⟨rfl, rfl⟩
  next hrunning hfallback =>
    by_cases hhalted : s.player.out = .halted
    · have hend : endDirectWith .playerReset none s = s := by simp [endDirectWith, endDirect, hhalted, notifyDirectEnded, Output.directParty]
      rw [hend, hhalted]
      exact ⟨rfl, rfl⟩
    · have hnone : s.player.out.context? = none := by
        cases hout : s.player.out with
        | running k c => exact absurd hout (hrunning k c)
        | fallback k c => exact absurd hout (hfallback k c)
        | idle | halted | offering _ _ | direct _ _ => rfl
      rw [endDirectWith_out _ _ hnone hhalted, hnone]
      exact ⟨rfl, rfl⟩

theorem discard_queue (k : Nat) : (discard k s).queue = s.queue := (congrArg State.queue (discard_others k s) :)

theorem endDirect_queue : (endDirect s).queue = s.queue := by
  unfold endDirect
  split
  · exact discard_queue _
  · dsimp only [State.setOut]
    rw [pinRelease_queue, discard_queue]
    split <;> rfl
  · rfl

theorem endDirect_stack : (endDirect s).player.stack = s.player.stack := by
  unfold endDirect
  split
  next k o _ => exact (congrArg Player.stack (discard_player k) :)
  · dsimp only [State.setOut]
    rw [pinRelease_player, discard_player]
    split <;> rfl
  · rfl

theorem notifyDirectEnded_queue (o : Output) (reason : EndReason) (byLevel : Option Nat) :
    (notifyDirectEnded o reason byLevel s).queue = s.queue := by
  unfold notifyDirectEnded
  split <;> rfl

theorem notifySubmitter_queue (p : Option PortId) (n : Notice) : (s.notifySubmitter p n).queue = s.queue := by
  cases p <;> rfl

theorem abortNotice_queue (k : Nat) (c : Context) (reason : EndReason) : (abortNotice k c reason s).queue = s.queue := by
  unfold abortNotice
  dsimp only
  split
  · exact silence_queue k
  · rw [notifySubmitter_queue, silence_queue]

theorem resetHolder_queue : (resetHolder s).queue = s.queue := by
  unfold resetHolder
  split
  · exact abortNotice_queue _ _ _
  · exact abortNotice_queue _ _ _
  · rw [endDirectWith, notifyDirectEnded_queue, endDirect_queue]

theorem resetHolder_stack : (resetHolder s).player.stack = s.player.stack := by
  unfold resetHolder
  split
  · rw [abortNotice_player]
  · rw [abortNotice_player]
  · rw [endDirectWith, notifyDirectEnded_player, endDirect_stack]

/-- The part before the references go: the holder silenced, and the suspended contexts told. -/
def resetTold (s : State) : State := (resetHolder s).player.stack.foldl resetSuspended (resetHolder s)

theorem resetTold_player : (resetTold s).player = (resetHolder s).player :=
  foldl_keeps (f := resetSuspended) State.player (fun _ _ => notifySubmitter_player _ _ _) _ _

theorem resetTold_queue : (resetTold s).queue = s.queue :=
  (foldl_keeps (f := resetSuspended) State.queue (fun _ _ => notifySubmitter_queue _ _) _ _).trans resetHolder_queue

theorem resetTold_moves : Moves a s (resetTold s) :=
  resetHolder_moves.trans (Moves.foldl (fun _ _ => notifySubmitter_moves _ _) _ _)

theorem useReleases_setQueue (l : List SeqId) (queue : List Entry) :
    useReleases l { s with queue := queue } = { useReleases l s with queue := queue } :=
  (Apart.useReleases (f := fun u : State => { u with queue := queue }) (fun _ _ => rfl) l s).symm

/-- RESET_PLAYER tells its ports and settles its blocks, and the uses of all contexts and entries are released. -/
theorem resetPlayer_control (s : State) :
    clearPlayer (clearLatches (blankRequest (restartLink (resetLights
      (resetQueue (useReleases (resetUses s) (resetTold s))))))) =
    useReleases (resetUses s ++ s.queue.flatMap Entry.uses)
      (clearPlayer { resetBlocks s.queue (resetTold s) with queue := [] }) := by
  have hleft : (useReleases (resetUses s) (resetTold s)).queue = s.queue :=
    (foldl_keeps (f := fun u n => useRelease n u) State.queue (fun _ _ => useRelease_queue _ _) _ _).trans resetTold_queue
  rw [resetQueue, hleft, foldl_resetEntry, ← useReleases_setQueue, ← useReleases_append]
  have hblocks := (resetBlocks_apart s.queue).useReleases (resetUses s ++ s.queue.flatMap Entry.uses)
    { resetTold s with queue := [] }
  have hempty := hblocks.trans (congrArg (useReleases _) (resetBlocks_setQueue s.queue []))
  exact (congrArg clearPlayer hempty).trans
    (Apart.useReleases (f := clearPlayer) (fun _ _ => rfl) (resetUses s ++ s.queue.flatMap Entry.uses)
      { resetBlocks s.queue (resetTold s) with queue := [] })

/-- The contexts that a player reset removes hold the uses that it releases. -/
theorem resetUses_eq : resetUses s = ((resetHolder s).player.out.contexts ++ s.player.stack).map Context.seq := by
  rw [resetUses, Output.contexts, resetHolder_out.1, List.map_append]
  cases s.player.out.context? <;> rfl

theorem resetPlayer_moves (p : PortId) (body : List Byte) : Moves a s (resetPlayer p body s).1 := by
  refine ofLength_moves (controlOnly_moves ?_)
  show Moves a s (clearPlayer (clearLatches (blankRequest (restartLink (resetLights
    (resetQueue (useReleases (resetUses s) (resetTold s))))))))
  rw [resetPlayer_control]
  generalize hu : resetBlocks s.queue (resetTold s) = u
  have hplayer : u.player = (resetHolder s).player := by rw [← hu, resetBlocks_player, resetTold_player]
  have hqueue : u.queue = s.queue := by
    have hset := congrArg State.queue (resetBlocks_setQueue (s := resetTold s) s.queue (resetTold s).queue)
    exact hu ▸ hset.trans resetTold_queue
  refine (hu ▸ resetTold_moves.trans (resetBlocks_moves s.queue) : Moves a s u).trans
    (.head (.notes u none none none none u.player.linkUp) (.single ?_))
  refine .release _ _ [] .idle [] (List.nil_sublist _) (List.nil_sublist _) (.inr ⟨.inl rfl, fun _ => ?_⟩) ?_ fun q => ?_
  · exact dark_of_lights rfl (hu ▸ resetBlocks_dark (s := resetTold s) s.queue)
  · exact (hplayer ▸ resetHolder_out.2 : u.player.out.shows = []).symm
  · show holdings u.queue u.player.out u.player.stack q = _
    rw [hqueue, hplayer, resetHolder_stack, holdings, countP_names, countP_seq, ← resetUses_eq, List.count_append]
    simp [holdings, Output.contexts, Output.context?, Nat.add_comm]

end
end Sys2Proof.Machine

/-! PROOF. Requests, announcements, time and the plane store, as runs of moves. -/

namespace Sys2Proof.Machine

set_option Elab.async false

section
variable {a : Leave} {s : State}

/-! ## Requests, announcements and time -/

theorem Moves.of_eq {t : State} (h : t = s) : Moves a s t := h ▸ .refl

/-- What a block makes of a request, if what it makes of each body is a run of moves. -/
theorem serveAt_moves {cmd : Command} {w : Place} {p : PortId} {act : List Byte → State → State × Answer}
    {follow : State → State}
    (h : ∀ body, Moves a s (if (act body s).2.status = .done then follow ((act body s).1.reply p (act body s).2)
      else (act body s).1.reply p (act body s).2)) :
    Moves a s (serveAt cmd w p act follow s) := by
  obtain hs | hs | ⟨body, -, hs⟩ := serveAt_cases cmd w p act follow s
  · exact .of_eq hs
  · exact hs ▸ reply_moves p _
  · exact hs ▸ h body

theorem serveThen_moves {cmd : Command} {p : PortId} {act : List Byte → State → State × Answer} {follow : State → State}
    (h : ∀ body, Moves a s (act body s).1) (hfollow : ∀ t, Moves a t (follow t)) :
    Moves a s (serveThen cmd p act follow s) := by
  unfold serveThen
  split
  · exact .refl
  · refine serveAt_moves fun body => ?_
    split
    · exact (h body).trans ((reply_moves p _).trans (hfollow _))
    · exact (h body).trans (reply_moves p _)

theorem serve_moves {cmd : Command} {p : PortId} {act : List Byte → State → State × Answer}
    (h : ∀ body, Moves a s (act body s).1) : Moves a s (serve cmd p act s) :=
  serveThen_moves h fun _ => .refl

theorem takeAnnouncement_moves {b : Block} {p : PortId} {act : State → State} (h : ∀ t, Moves a t (act t)) :
    Moves a s (takeAnnouncement b p act s) := by
  obtain hs | ⟨x, -, -, -, hs⟩ := takeAnnouncement_cases b p act s
  · exact .of_eq hs
  · exact hs ▸ (announcements_moves _).trans (h _)

theorem elapse_moves (d : Nat) : Moves a s (s.elapse d) := by
  refine .head (.outTimer s d) (.head (.notes _ (timerAfter d s.player.holdTimer) (timerAfter d s.player.gapTimer)
    s.player.faultRecord s.player.haltRecord s.player.linkUp) ?_)
  refine .head (.trig _ { s.trig with
    wait := s.trig.wait.map fun w => { w with timer := timerAfter d w.timer }
    sync := timerAfter d s.trig.sync } fun ⟨hwait, hlatches⟩ => ⟨?_, hlatches⟩) ?_
  · revert hwait
    dsimp only [State.setOut]
    cases s.trig.wait <;> exact id
  refine .head (.link _ { s.link with timer := timerAfter d s.link.timer } fun ⟨htimer, hrest⟩ => ⟨?_, hrest⟩) ?_
  · exact (Option.isSome_map (f := fun r => r - d)).trans htimer
  refine .head (.dim _ (mapBank (fun x => x.after d) s.lights) fun c hc => ?_) ?_
  · have hc' : ((s.light c).after d).on = true := by
      have heq := State.light_elapse s d c
      rw [← heq]
      exact hc
    unfold Light.after at hc'
    split at hc' <;> exact hc'
  exact .single (.loader _ { s.lib with burst := s.lib.burst.map fun b => { b with timer := timerAfter d b.timer } }
    fun h => h)

theorem expire_moves {t : Option Nat} {act : State → State} (h : ∀ d, Moves a (s.elapse d) (act (s.elapse d))) :
    Moves a s (expire t act s) := by
  obtain hs | ⟨d, -, hs⟩ := expire_cases t act s
  · exact .of_eq hs
  · exact hs ▸ (elapse_moves d).trans (h d)

/-! ## The plane store (R4 to R18) -/

/-- One slot changes without a pin raised or released. -/
theorem Move.setSlot (n : SlotId) (x : Slot) (h : SlotOk (s.slot n) → SlotOk x ∧ x.pins = (s.slot n).pins) :
    Move a s (s.setSlot n x) := by
  refine .slots s _ fun m hm => ?_
  show SlotOk ((s.setSlot n x).slot m) ∧ ((s.setSlot n x).slot m).pins = _
  rw [State.slot_setSlot]
  split
  next heq => exact heq ▸ h (heq ▸ hm)
  next => exact ⟨hm, rfl⟩

theorem ownedSlot_moves {p : PortId} {number : Nat} {act : SlotId → State → State × Answer}
    (h : ∀ n, (s.slot n).owner = some p → Moves a s (act n s).1) : Moves a s (ownedSlot p number act s).1 := by
  unfold ownedSlot
  split
  · exact .refl
  · split
    · exact h _ ‹_›
    · exact .refl

theorem claimFree_moves (p : PortId) {n : SlotId} (hfree : (s.slot n).content = .free) : Moves a s (claimFree p n s).1 := by
  refine .single (.setSlot n _ fun h => ⟨⟨rfl, rfl, rfl⟩, ?_⟩)
  have hslot : s.slot n = Slot.free := by simpa [SlotOk, hfree] using h
  rw [hslot]

theorem allocateSlot_moves (p : PortId) (body : List Byte) : Moves a s (allocateSlot p body s).1 := by
  refine ofLength_moves ?_
  split
  · split
    next n hn => exact claimFree_moves p (by simpa using List.find?_some hn)
    next => exact .refl
  · split
    next => exact .refl
    next =>
      split
      next h => exact claimFree_moves p h
      next => exact .refl

theorem openFill_moves (p : PortId) (body : List Byte) : Moves a s (openFill p body s).1 := by
  refine ofLength_moves (ownedSlot_moves fun n howner => ?_)
  dsimp only
  split
  next hc =>
    refine .single (.setSlot n _ fun h => ⟨?_, rfl⟩)
    simp only [SlotOk, hc] at h ⊢
    exact ⟨h.1, h.2.1, h.2.2, Nat.zero_le _⟩
  next hc =>
    split
    · exact .refl
    next hpins =>
      refine .single (.setSlot n _ fun h => ⟨?_, rfl⟩)
      simp only [SlotOk, hc] at h ⊢
      exact ⟨by simp [howner], by omega, by simp [h, howner], Nat.zero_le _⟩
  next => exact .refl

theorem writePlane_moves (p : PortId) (body : List Byte) : Moves a s (writePlane p body s).1 := by
  unfold writePlane
  dsimp only
  split
  · refine ownedSlot_moves fun n _ => ?_
    split
    next progress crc hc =>
      split
      next hle =>
        refine .head (.setSlot n { s.slot n with
          content := .filling (progress + (body.length - 6)) (crc32Carry crc (body.drop 6)) } fun h => ⟨?_, rfl⟩)
          (.single (.memory _ _ _))
        simp only [SlotOk, hc] at h ⊢
        exact ⟨h.1, h.2.1, h.2.2.1, hle.2⟩
      next => exact .refl
    next => exact .refl
  · exact .refl

/-- A FILLING slot may be left HELD. -/
theorem heldWith_moves {n : SlotId} {progress : Nat} {crc : Crc32} (r : LastResult)
    (hc : (s.slot n).content = .filling progress crc) : Moves a s (s.setSlot n ((s.slot n).heldWith r)) := by
  refine .single (.setSlot n _ fun h => ⟨?_, rfl⟩)
  simp only [SlotOk, hc] at h
  exact ⟨h.1, h.2.1, h.2.2.1⟩

theorem closeFill_moves (p : PortId) (body : List Byte) : Moves a s (closeFill p body s).1 := by
  refine ofLength_moves (ownedSlot_moves fun n howner => ?_)
  split
  next progress crc hc =>
    split
    · split
      · refine .single (.setSlot n _ fun h => ⟨?_, rfl⟩)
        simp only [SlotOk, hc] at h
        simp [SlotOk, Slot.readyWith, howner, h.2.2.1]
      · exact heldWith_moves _ hc
    · exact .refl
  next => exact .refl

theorem abandonFill_moves (p : PortId) (body : List Byte) : Moves a s (abandonFill p body s).1 := by
  refine ofLength_moves (ownedSlot_moves fun n _ => ?_)
  split
  next hc => exact heldWith_moves _ hc
  next => exact .refl

/-- A slot without a pin may become FREE. -/
theorem freed_moves (n : SlotId) (h : SlotOk (s.slot n) → (s.slot n).pins = 0) : Moves a s (s.setSlot n Slot.free) :=
  .single (.setSlot n _ fun hok => ⟨rfl, (h hok).symm⟩)

theorem freeSlot_moves (p : PortId) (body : List Byte) : Moves a s (freeSlot p body s).1 := by
  refine ofLength_moves (ownedSlot_moves fun n _ => ?_)
  split
  next => exact .refl
  next =>
    split
    next => exact .refl
    next hpins => exact freed_moves n fun _ => by omega
  next hloading hready =>
    refine freed_moves n fun h => ?_
    unfold SlotOk at h
    split at h
    · rw [h]; rfl
    · exact h.2.1
    · exact h.2.1
    · exact h.1
    next crc o hc => exact absurd hc (hready crc o)

theorem endSession_slotOk (p : PortId) {x : Slot} (h : SlotOk x) :
    SlotOk (x.endSession p) ∧ (x.endSession p).pins = x.pins := by
  unfold Slot.endSession
  split
  next =>
    cases hc : x.content with
    | free | held | filling _ _ => simp_all [SlotOk, Slot.free]
    | loading _ _ => simp_all [SlotOk]
    | ready _ _ =>
      by_cases hpins : 0 < x.pins
      · simp [hpins, SlotOk]
      · simp [SlotOk, Slot.free, Nat.eq_zero_of_not_pos hpins]
  next => exact ⟨h, rfl⟩

theorem sessionEndSlots_moves (p : PortId) : Moves a s { s with slots := mapBank (Slot.endSession p) s.slots } := by
  refine .single (.slots s _ fun n h => ?_)
  have hn : (mapBank (Slot.endSession p) s.slots)[n] = (s.slot n).endSession p := getElem_mapBank ..
  rw [hn]
  exact endSession_slotOk p h

/-! ## Loads at the plane store (R14 to R17) -/

theorem endLoad_slotOk {x : Slot} {progress : Nat} {crc : Crc32} (hc : x.content = .loading progress crc) (e : LoadEnding)
    (h : SlotOk x) : SlotOk (x.endLoad crc e) ∧ (x.endLoad crc e).pins = x.pins := by
  simp only [SlotOk, hc] at h
  obtain ⟨hpins, horphan⟩ := h
  unfold Slot.endLoad
  split
  next => simp [SlotOk, Slot.free, hpins]
  next howner =>
    cases e with
    | complete c entry =>
      dsimp only
      split <;> simp [SlotOk, Slot.readyWith, Slot.heldWith, hpins, horphan, Option.isSome_iff_ne_none, howner]
    | formatError | flashError | cancelled => simp [SlotOk, Slot.heldWith, hpins, horphan, Option.isSome_iff_ne_none, howner]
    | sessionEnded => simp [SlotOk, Slot.free, hpins]

theorem loadEnding_moves (n : SlotId) (e : LoadEnding) : Moves a s (loadEnding n e s) := by
  unfold loadEnding
  split
  next hc => exact .single (.setSlot n _ (endLoad_slotOk hc e))
  next => exact .refl

theorem loadWrite_moves (n : SlotId) (bytes : List Byte) : Moves a s (loadWrite n bytes s) := by
  unfold loadWrite
  split
  next progress crc hc =>
    refine .head (.setSlot n { s.slot n with
      content := .loading (progress + bytes.length) (crc32Carry crc bytes) } fun h => ⟨?_, rfl⟩) (.single (.memory _ _ _))
    simp only [SlotOk, hc] at h ⊢
    exact h
  next => exact .refl

theorem mismatchReport_moves (n : SlotId) : Moves a s (mismatchReport n s) := by
  unfold mismatchReport
  split
  next hready =>
    refine .single (.setSlot n _ fun h => ⟨?_, rfl⟩)
    cases hc : (s.slot n).content <;> simp_all [SlotOk, Slot.isReady, SlotContent.state]
  next => exact .refl

/-- A load claim of the port does not fail on the slot, and the slot is not FREE. -/
def Slot.claimable (p : PortId) (x : Slot) : Prop :=
  x.owner = some p ∧ (match x.content with | .filling _ _ => False | .ready _ _ => x.pins = 0 | _ => True)

theorem claimable_of_claimFault {p : PortId} {x : Slot} (h : claimFault p x = none) : x.claimable p := by
  unfold claimFault at h
  split at h
  · cases h
  next howner =>
    refine ⟨not_not.mp howner, ?_⟩
    split at h
    · cases h
    · cases h
    next hc => rw [hc]; simp at h; exact h
    next hfilling hloading hready =>
      cases hc : x.content with
      | filling b c => exact absurd hc (hfilling b c)
      | ready b c => exact absurd hc (hready b c)
      | free | held | loading _ _ => trivial

theorem claimable_of_firstClaimFault {p : PortId} {l : List SlotId} {i : Nat} (h : firstClaimFault s p i l = none) :
    ∀ n ∈ l, (s.slot n).claimable p := by
  induction l generalizing i with
  | nil => simp
  | cons n l ih =>
    unfold firstClaimFault at h
    split at h
    · cases h
    next hn => exact List.forall_mem_cons.mpr ⟨claimable_of_claimFault hn, ih h⟩

theorem claimOne_move {p : PortId} {n : SlotId} (h : (s.slot n).claimable p) : Move a s (claimOne s n) := by
  refine .setSlot n _ fun hok => ⟨?_, rfl⟩
  obtain ⟨howner, hclaim⟩ := h
  cases hc : (s.slot n).content <;> simp_all [SlotOk, Slot.free]

theorem claimOne_claimable {p : PortId} (n m : SlotId) (h : (s.slot m).claimable p) :
    ((claimOne s n).slot m).claimable p := by
  rw [claimOne, State.slot_setSlot]
  split
  next heq => exact ⟨heq ▸ h.1, trivial⟩
  next => exact h

theorem loadClaim_moves {p : PortId} {l : List SlotId} {t : State} (h : loadClaim p l s = .ok t) : Moves a s t := by
  unfold loadClaim at h
  split at h
  · cases h
  next hfault =>
    have hclaim := claimable_of_firstClaimFault hfault
    cases h
    clear hfault
    induction l generalizing s with
    | nil => exact .refl
    | cons n l ih =>
      have hn := hclaim n List.mem_cons_self
      exact .head (claimOne_move hn) (ih fun m hm => claimOne_claimable n m (hclaim m (List.mem_cons_of_mem n hm)))

end
end Sys2Proof.Machine

/-! PROOF. The sequence table, and the start and the end of load jobs, as runs of moves. -/

namespace Sys2Proof.Machine

set_option Elab.async false

section
variable {a : Leave} {s : State}

/-! ## The sequence table (R43 to R56) -/

theorem ownedSeq_moves {p : PortId} {number : Nat} {act : SeqId → State → State × Answer}
    (h : ∀ n, (s.seq n).owner = some p → Moves a s (act n s).1) : Moves a s (ownedSeq p number act s).1 := by
  unfold ownedSeq
  split
  · exact .refl
  · split
    · exact h _ ‹_›
    · exact .refl

theorem openSeq_moves {p : PortId} {number : Nat} {act : SeqId → State → State × Answer}
    (h : ∀ n, (s.seq n).state = .opened → Moves a s (act n s).1) : Moves a s (openSeq p number act s).1 := by
  refine ownedSeq_moves fun n _ => ?_
  split
  · exact h n ‹_›
  · exact .refl

theorem createSequence_moves (p : PortId) (body : List Byte) : Moves a s (createSequence p body s).1 := by
  refine ofLength_moves ?_
  split
  · split
    next n hn => exact .single (.claim s n p _ (by simpa using List.find?_some hn))
    next => exact .refl
  · split
    · exact .refl
    · split
      · exact .single (.claim s _ p _ ‹_›)
      · exact .refl

theorem stepsFrom_length {body : List Byte} {i pos n : Nat} {l : List Step} (h : stepsFrom body i pos n = .ok l) :
    l.length = n := by
  induction n generalizing i pos l with
  | zero => cases h; rfl
  | succ n ih =>
    unfold stepsFrom at h
    split at h
    · cases h
    · split at h
      next hrest => cases h; simp [ih hrest]
      · cases h

theorem appendSteps_moves (p : PortId) (body : List Byte) : Moves a s (appendSteps p body s).1 := by
  unfold appendSteps
  dsimp only
  split
  · refine openSeq_moves fun n hstate => ?_
    split
    · exact .refl
    next batch hbatch =>
      have hlen := stepsFrom_length hbatch
      split
      · exact .refl
      next hmax =>
        split
        · exact .refl
        next hpool =>
          split
          · exact .refl
          next t ht =>
            rw [← hlen] at hmax hpool ⊢
            exact .single (.append s t n batch ht hstate (by omega) (by omega))
  · exact .refl

theorem removeSteps_moves (p : PortId) (body : List Byte) : Moves a s (removeSteps p body s).1 := by
  refine ofLength_moves (openSeq_moves fun n hstate => ?_)
  dsimp only
  split
  · exact .refl
  · exact .single (.shorten s n _ hstate)

theorem setRepeat_moves (p : PortId) (body : List Byte) : Moves a s (setRepeat p body s).1 := by
  refine ofLength_moves (openSeq_moves fun n hstate => ?_)
  split
  · exact .refl
  · refine .single (.seq s n _ rfl rfl (by simp [hstate]) (by simp [hstate]) fun h => ?_)
    simp only [SeqOk, hstate] at h ⊢
    exact h

theorem sealSequence_moves (p : PortId) (body : List Byte) : Moves a s (sealSequence p body s).1 := by
  refine ofLength_moves (openSeq_moves fun n hstate => ?_)
  split
  · exact .refl
  next hlen =>
    refine .single (.seq s n _ rfl rfl (by simp) (by simp) fun h => ?_)
    simp only [SeqOk, hstate] at h ⊢
    obtain ⟨howner, -, horphan, hmax⟩ := h
    exact ⟨by simp [horphan, howner], by omega, hmax⟩

theorem unsealSequence_moves (p : PortId) (body : List Byte) : Moves a s (unsealSequence p body s).1 := by
  refine ofLength_moves (ownedSeq_moves fun n howner => ?_)
  dsimp only
  split
  · exact .refl
  next hstate =>
    split
    · exact .refl
    next huses =>
      refine .single (.seq s n _ rfl rfl (by simp) (fun _ h => absurd h huses) fun h => ?_)
      simp only [SeqOk, not_not.mp hstate] at h ⊢
      exact ⟨by simp [howner], by omega, by simp [h.1, howner], h.2.2⟩

theorem deleteSequence_moves (p : PortId) (body : List Byte) : Moves a s (deleteSequence p body s).1 := by
  refine ofLength_moves (ownedSeq_moves fun n _ => ?_)
  dsimp only
  split
  · exact .refl
  next h => exact .single (.emptied s n fun hs => by simpa [hs] using h)

theorem endSessionOfSeq_moves (p : PortId) (n : SeqId) : Moves a s (endSessionOfSeq p s n) := by
  unfold endSessionOfSeq
  dsimp only
  split
  · split
    next h =>
      refine .single (.seq s n _ rfl rfl (by simp [h.1]) (fun _ _ => h.1) fun hok => ?_)
      simp only [SeqOk, h.1] at hok ⊢
      exact ⟨rfl, hok.2⟩
    next h => exact .single (.emptied s n fun hs => by simpa [hs] using h)
  · exact .refl

/-! ## The library loader (R23 to R36) -/

/-- The loader agrees with itself but for a head that has yet to start. -/
def Loader.headless (x : Loader) : Prop :=
  x.scan.isSome = (x.state == .scanning)
    ∧ (x.state ≠ .valid → x.entries = [] ∧ x.dirCrc = 0)
    ∧ (x.jobs ≠ [] → x.state = .valid)
    ∧ x.jobs.length ≤ Config.maxJobs
    ∧ (x.run.isSome = true → x.jobs ≠ [])

theorem headless_of_consistent (h : LoaderConsistent s) : s.lib.headless := by
  obtain ⟨hscan, himage, hvalid, hmax, hrun⟩ := h
  exact ⟨hscan, himage, hvalid, hmax, fun hsome => by simpa [hsome] using hrun⟩

theorem consistent_of_headless {x : Loader} (h : x.headless) (hrun : x.jobs ≠ [] → x.run.isSome = true) :
    LoaderConsistent { s with lib := x } := by
  obtain ⟨hscan, himage, hvalid, hmax, hhead⟩ := h
  refine ⟨hscan, himage, hvalid, hmax, ?_⟩
  show x.run.isSome = !x.jobs.isEmpty
  cases hjobs : x.jobs with
  | nil => cases hr : x.run.isSome with
    | false => rfl
    | true => exact absurd hjobs (hhead hr)
  | cons j l => exact hrun (by simp [hjobs])

/-- The ending of a job at the plane store and at its port. -/
def endJobStored (j : Job) (e : LoadEnding) (s : State) : State :=
  let written := (s.slot j.slot).content.progress
  let t := loadEnding j.slot e s
  let state := (t.slot j.slot).content.state
  if state = .free then t else t.notify j.port (.loadDone j.slot (loadResult e state) state written)

/-- The loader without its head job. -/
def Loader.tail (x : Loader) : Loader := { x with jobs := x.jobs.tail, run := none, burst := none }

theorem loadEnding_setLib (n : SlotId) (e : LoadEnding) (x : Loader) :
    loadEnding n e { s with lib := x } = { loadEnding n e s with lib := x } := by
  have hslot : ({ s with lib := x } : State).slot n = s.slot n := rfl
  unfold loadEnding
  rw [hslot]
  cases (s.slot n).content <;> rfl

theorem endJob_setLib (j : Job) (e : LoadEnding) (x : Loader) :
    endJob j e { s with lib := x } = { endJobStored j e s with lib := x.tail } := by
  rw [endJob, loadEnding_setLib]
  unfold endJobStored
  dsimp only
  split
  next h => exact (if_pos h).symm ▸ rfl
  next h => exact (if_neg h).symm ▸ rfl

theorem endJobStored_moves (j : Job) (e : LoadEnding) : Moves a s (endJobStored j e s) := by
  unfold endJobStored
  dsimp only
  split
  · exact loadEnding_moves _ _
  · exact (loadEnding_moves _ _).trans (notify_moves _ _)

theorem endJobStored_lib (j : Job) (e : LoadEnding) : (endJobStored j e s).lib = s.lib := by
  unfold endJobStored
  dsimp only
  split
  · exact loadEnding_lib _ _ _
  · exact loadEnding_lib _ _ _

theorem Loader.headless_tail {x : Loader} (h : x.headless) : x.tail.headless := by
  obtain ⟨hscan, himage, hvalid, hmax, -⟩ := h
  refine ⟨hscan, himage, fun hj => hvalid fun hnil => hj (by simp [Loader.tail, hnil]), ?_, nofun⟩
  show x.jobs.tail.length ≤ Config.maxJobs
  rw [List.length_tail]
  omega

/-- A head starts: slots and ports change by moves, and the loader is in order with no head waiting. -/
theorem startJobs_parts (n : Nat) (x : Loader) :
    ∃ u y, startJobs n { s with lib := x } = { u with lib := y } ∧ Moves a s u ∧ u.lib = s.lib
      ∧ (x.headless → x.jobs.length ≤ n → y.headless ∧ (y.jobs ≠ [] → y.run.isSome = true)) := by
  induction n generalizing s x with
  | zero => exact ⟨s, x, rfl, .refl, rfl, fun h hn => ⟨h, fun hj => absurd (List.eq_nil_of_length_eq_zero (by omega)) hj⟩⟩
  | succ n ih =>
    unfold startJobs
    dsimp only
    split
    next hjobs => exact ⟨s, x, rfl, .refl, rfl, fun h _ => ⟨h, fun hj => absurd hjobs hj⟩⟩
    next j l hjobs =>
      have hended : ∃ u y, startJobs n (endJob j .formatError { s with lib := x }) = { u with lib := y } ∧ Moves a s u
          ∧ u.lib = s.lib
          ∧ (x.headless → x.jobs.length ≤ n + 1 → y.headless ∧ (y.jobs ≠ [] → y.run.isSome = true)) := by
        rw [endJob_setLib]
        obtain ⟨u, y, heq, hmoves, hlib, hy⟩ := ih (s := endJobStored j .formatError s) x.tail
        refine ⟨u, y, heq, (endJobStored_moves _ _).trans hmoves, hlib.trans (endJobStored_lib _ _), fun h hn => ?_⟩
        refine hy (Loader.headless_tail h) ?_
        show x.jobs.tail.length ≤ n
        rw [List.length_tail]
        omega
      split
      next e _ =>
        split
        · refine ⟨s, _, rfl, .refl, rfl, fun h _ => ⟨?_, fun _ => rfl⟩⟩
          obtain ⟨hscan, himage, hvalid, hmax, -⟩ := h
          exact ⟨hscan, himage, hvalid, hmax, fun _ => by simp [hjobs]⟩
        · exact hended
      next => exact hended

/-- The next job starts once the loader has changed. -/
theorem startHead_moves {x : Loader} (h : LoaderConsistent s → x.headless) : Moves a s (startHead { s with lib := x }) := by
  unfold startHead
  split
  next hrun => exact .single (.loader s x fun hs => consistent_of_headless (h hs) fun _ => hrun)
  next =>
    obtain ⟨u, y, heq, hmoves, hlib, hy⟩ := startJobs_parts (a := a) (s := s) x.jobs.length x
    refine heq ▸ hmoves.tail (.loader u y fun hu => ?_)
    obtain ⟨hhead, hrun⟩ := hy (h (by rw [LoaderConsistent, ← hlib]; exact hu)) (Nat.le_refl _)
    exact consistent_of_headless hhead hrun

theorem finishJob_moves (j : Job) (e : LoadEnding) {x : Loader} (h : LoaderConsistent s → x.headless) :
    Moves a s (finishJob j e { s with lib := x }) := by
  rw [finishJob, endJob_setLib]
  refine (endJobStored_moves j e).trans (startHead_moves fun hs => Loader.headless_tail (h ?_))
  rw [LoaderConsistent, endJobStored_lib] at hs
  exact hs

end
end Sys2Proof.Machine

/-! PROOF. Scans and the bytes of load jobs, as runs of moves. -/

namespace Sys2Proof.Machine

set_option Elab.async false

section
variable {a : Leave} {s : State}

/-! ## Bursts, scans and jobs (R23 to R36) -/

theorem startBurst_moves {x : Loader} (offset length : Nat) (h : LoaderConsistent s → LoaderConsistent { s with lib := x }) :
    Moves a s (startBurst offset length { s with lib := x }) :=
  .single (.loader s _ h)

/-- A loader that scans has no image and no job. -/
def Loader.scans (x : Loader) : Prop :=
  x.state = .scanning ∧ x.entries = [] ∧ x.dirCrc = 0 ∧ x.jobs = [] ∧ x.run.isSome = false

theorem scans_of_consistent (h : LoaderConsistent s) (hs : s.lib.scan.isSome = true) : s.lib.scans := by
  obtain ⟨hscan, himage, hvalid, -, hrun⟩ := h
  have hstate : s.lib.state = .scanning := by simpa [hs] using hscan.symm
  obtain ⟨hentries, hcrc⟩ := himage (by simp [hstate])
  have hjobs : s.lib.jobs = [] := not_not.mp fun hj => by simp [hvalid hj] at hstate
  exact ⟨hstate, hentries, hcrc, hjobs, by simpa [hjobs] using hrun⟩

theorem startScan_moves {x : Loader} (h : LoaderConsistent s → x.jobs = [] ∧ x.run.isSome = false) :
    Moves a s (startScan { s with lib := x }) := by
  refine startBurst_moves 0 10 fun hs => ?_
  obtain ⟨hjobs, hrun⟩ := h hs
  refine ⟨rfl, fun _ => ⟨rfl, rfl⟩, fun hj => absurd hjobs hj, ?_, ?_⟩
  · show x.jobs.length ≤ _
    simp [hjobs]
  · show x.run.isSome = !x.jobs.isEmpty
    simp [hjobs, hrun]

theorem endScan_moves {x : Loader} {state : LibState} {entries : List DirEntry} {crc : Crc32} (reason : InvalidReason)
    (hstate : state ≠ .scanning) (himage : state ≠ .valid → entries = [] ∧ crc = 0)
    (h : LoaderConsistent s → x.scans) : Moves a s (endScan state reason entries crc { s with lib := x }) := by
  refine .head (.loader s { x with
    state := state, reason := reason, entries := entries, dirCrc := crc, scan := none, burst := none } fun hs => ?_)
    (notifyControl_moves _)
  obtain ⟨-, -, -, hjobs, hrun⟩ := h hs
  refine ⟨by simp [hstate], himage, fun hj => absurd hjobs hj, ?_, ?_⟩
  · show x.jobs.length ≤ _
    simp [hjobs]
  · show x.run.isSome = !x.jobs.isEmpty
    simp [hjobs, hrun]

theorem scanTable_moves {x : Loader} (count : Nat) (crc : Crc32) (table : List Byte) (h : LoaderConsistent s → x.scans) :
    Moves a s (scanTable count crc table { s with lib := x }) := by
  unfold scanTable
  split
  · refine startBurst_moves (x := { x with scan := some { header := some (count, crc), table := table } }) _ _ fun hs => ?_
    obtain ⟨hstate, hentries, hcrc, hjobs, hrun⟩ := h hs
    simp [LoaderConsistent, hstate, hentries, hcrc, hjobs, hrun]
  · split
    · exact endScan_moves _ (by decide) (fun hv => absurd rfl hv) h
    · exact endScan_moves _ (by decide) (fun _ => ⟨rfl, rfl⟩) h

theorem scanHeader_moves {x : Loader} (header : List Byte) (h : LoaderConsistent s → x.scans) :
    Moves a s (scanHeader header { s with lib := x }) := by
  unfold scanHeader
  split
  · exact endScan_moves _ (by decide) (fun _ => ⟨rfl, rfl⟩) h
  · split
    · exact endScan_moves _ (by decide) (fun _ => ⟨rfl, rfl⟩) h
    · exact scanTable_moves _ _ _ h

theorem loadWrite_setLib (n : SlotId) (bytes : List Byte) (x : Loader) :
    loadWrite n bytes { s with lib := x } = { loadWrite n bytes s with lib := x } := by
  have hslot : ({ s with lib := x } : State).slot n = s.slot n := rfl
  unfold loadWrite
  rw [hslot]
  cases (s.slot n).content <;> rfl

theorem loadWrite_lib (n : SlotId) (bytes : List Byte) : (loadWrite n bytes s).lib = s.lib := by
  unfold loadWrite
  split <;> rfl

theorem jobBytes_moves {j : Job} {l : List Job} {y : Loader} (r : JobRun) (data : List Byte) (hjobs : y.jobs = j :: l)
    (hy : LoaderConsistent s → y.headless) : Moves a s (jobBytes j r data { s with lib := y }) := by
  unfold jobBytes
  extract_lets left plane x t taken
  have hwrite : t = { loadWrite j.slot x.out s with lib := y } := loadWrite_setLib _ _ _
  clear_value t
  subst hwrite
  have hkeep (h : LoaderConsistent (loadWrite j.slot x.out s)) : y.headless := by
    rw [LoaderConsistent, loadWrite_lib] at h
    exact hy h
  have hfinish (e : LoadEnding) : Moves a s (finishJob j e { loadWrite j.slot x.out s with lib := y }) :=
    (loadWrite_moves _ _).trans (finishJob_moves j e hkeep)
  split
  · exact hfinish _
  · split
    · refine (loadWrite_moves _ _).trans (startBurst_moves (x := { y with
        run := some { r with taken := taken, run := x.run } }) _ _ fun h => ?_)
      obtain ⟨hscan, himage, hvalid, hmax, -⟩ := hkeep h
      exact consistent_of_headless ⟨hscan, himage, hvalid, hmax, fun _ => by simp [hjobs]⟩ fun _ => rfl
    · split
      · exact hfinish _
      · exact hfinish _

theorem execFlashBurstDone_moves (data : List Byte) {t : State} (h : execFlashBurstDone data s = .next t) : Moves a s t := by
  unfold execFlashBurstDone at h
  obtain rfl := Host.Outcome.next.inj h
  clear h
  split
  next b _ =>
    split
    · dsimp only
      split
      next sc hsc =>
        have hscans : LoaderConsistent s → Loader.scans { s.lib with burst := none } := fun hs =>
          scans_of_consistent hs (by simp [hsc])
        split
        · exact scanHeader_moves _ hscans
        · exact scanTable_moves _ _ _ hscans
      next j l r hscan hjobs _ =>
        exact jobBytes_moves (y := { s.lib with burst := none }) r data hjobs fun h => headless_of_consistent h
      next => exact .single (.loader s _ fun h => h)
    · exact .refl
  next => exact .refl

theorem execFlashAnswerTimeout_moves {t : State} (h : execFlashAnswerTimeout s = .next t) : Moves a s t := by
  unfold execFlashAnswerTimeout at h
  obtain rfl := Host.Outcome.next.inj h
  clear h
  refine expire_moves fun d => ?_
  generalize s.elapse d = s
  dsimp only
  split
  next sc hsc =>
    exact endScan_moves _ (by decide) (fun _ => ⟨rfl, rfl⟩) fun hs => scans_of_consistent hs (by simp [hsc])
  next j l hscan hjobs =>
    split
    · exact finishJob_moves j _ fun hs => headless_of_consistent hs
    · exact .single (.loader s _ fun h => h)
  next => exact .single (.loader s _ fun h => h)

/-! ## The loader's requests (R28 to R36) -/

theorem rescanLibrary_moves (p : PortId) (body : List Byte) : Moves a s (rescanLibrary p body s).1 := by
  refine ofLength_moves (controlOnly_moves ?_)
  split
  · exact .refl
  next hjobs =>
    refine startScan_moves (x := s.lib) fun ⟨_, _, _, _, hrun⟩ => ?_
    have hnil : s.lib.jobs = [] := List.eq_nil_of_length_eq_zero (not_not.mp hjobs)
    exact ⟨hnil, by simpa [hnil] using hrun⟩

theorem loadPairs_length {body : List Byte} {entries : Nat} {seen : List SlotId} {pos k : Nat} {l : List (SlotId × Nat)}
    (h : loadPairs body entries seen pos k = .ok l) : l.length = k := by
  induction k generalizing seen pos l with
  | zero => cases h; rfl
  | succ k ih =>
    unfold loadPairs at h
    split at h
    · cases h
    · split at h
      · cases h
      · split at h
        next hrest => cases h; simp [ih hrest]
        · cases h

theorem claimFault_ne_done {p : PortId} {x : Slot} : claimFault p x ≠ some .done := by
  unfold claimFault
  split
  · simp
  · split
    · simp
    · simp
    · split <;> simp
    · simp

theorem firstClaimFault_ne_done {p : PortId} {l : List SlotId} {i pos : Nat} :
    firstClaimFault s p i l ≠ some (pos, .done) := by
  induction l generalizing i with
  | nil => simp [firstClaimFault]
  | cons n l ih =>
    unfold firstClaimFault
    split
    next st hst => simp only [ne_eq, Option.some.injEq, Prod.mk.injEq, not_and]; rintro - rfl; exact claimFault_ne_done hst
    next => exact ih

theorem loadClaim_error_ne_done {p : PortId} {l : List SlotId} {pos : Nat} : loadClaim p l s ≠ .error (pos, .done) := by
  unfold loadClaim
  split
  next hfault => rintro h; cases h; exact firstClaimFault_ne_done hfault
  next => simp

/-- LOAD_PLANES is refused, or claims its slots and queues its jobs. -/
theorem loadPlanes_cases (p : PortId) (body : List Byte) :
    ((loadPlanes p body s).1 = s ∧ (loadPlanes p body s).2.status ≠ .done)
    ∨ (loadPlanes p body s).2.status = .done ∧ ∃ l t, loadClaim p l s = .ok t ∧ s.lib.state = .valid ∧ ∃ jobs : List Job,
        s.lib.jobs.length + jobs.length ≤ Config.maxJobs
          ∧ (loadPlanes p body s).1 = { t with lib := { t.lib with jobs := t.lib.jobs ++ jobs } } := by
  unfold loadPlanes
  dsimp only
  split
  · split
    · exact .inl ⟨rfl, by simp [refuse]⟩
    · exact .inl ⟨rfl, by simp [refuse]⟩
    · exact .inl ⟨rfl, by simp [refuse]⟩
    next hstate =>
      split
      · exact .inl ⟨rfl, by simp [refuseWith]⟩
      next pairs hpairs =>
        split
        · exact .inl ⟨rfl, by simp [refuseWith]⟩
        next hmax =>
          split
          next pos st hfault =>
            refine .inl ⟨rfl, ?_⟩
            show st ≠ .done
            rintro rfl
            exact loadClaim_error_ne_done hfault
          next t ht => exact .inr ⟨rfl, _, t, ht, hstate, _, by simpa [loadPairs_length hpairs] using hmax, rfl⟩
  · exact .inl ⟨rfl, by simp [refuse]⟩

end
end Sys2Proof.Machine

/-! PROOF. The loader's requests, the driver's answers, triggers and limits, as runs of moves. -/

namespace Sys2Proof.Machine

set_option Elab.async false

section
variable {a : Leave} {s : State}

theorem loadClaim_lib {p : PortId} {l : List SlotId} {t : State} (h : loadClaim p l s = .ok t) : t.lib = s.lib :=
  (congrArg State.lib (loadClaim_frame h) :)

theorem execLoadPlanes_moves (p : PortId) {t : State} (h : execLoadPlanes p s = .next t) : Moves a s t := by
  obtain rfl := Host.Outcome.next.inj h
  refine serveAt_moves fun body => ?_
  obtain ⟨hs, hstatus⟩ | ⟨hstatus, l, u, hclaim, hvalid, jobs, hmax, hs⟩ := loadPlanes_cases (s := s) p body
  · rw [if_neg hstatus, hs]
    exact reply_moves p _
  · rw [if_pos hstatus, hs]
    refine (loadClaim_moves hclaim).trans ((reply_moves p _).trans
      (startHead_moves (x := { u.lib with jobs := u.lib.jobs ++ jobs }) fun hu => ?_))
    obtain ⟨hscan, himage, -, -, hrun⟩ := headless_of_consistent hu
    rw [← loadClaim_lib hclaim] at hvalid hmax
    refine ⟨hscan, himage, fun _ => hvalid, by simpa using hmax, fun hsome hnil => hrun hsome ?_⟩
    exact (List.append_eq_nil_iff.mp hnil).1

/-- The slots of the jobs that leave the queue end their loads. -/
def dropStored (gone : Job → Bool) (e : LoadEnding) (s : State) : State :=
  (s.lib.jobs.filter gone).foldl (fun u j => loadEnding j.slot e u) s

/-- The loader without the jobs named. -/
def Loader.drop (gone : Job → Bool) (x : Loader) : Loader :=
  let headGone := match x.jobs with | j :: _ => gone j | [] => false
  { x with
    jobs := x.jobs.filter fun j => !gone j
    run := if headGone then none else x.run
    burst := if headGone then none else x.burst }

theorem dropStored_lib (gone : Job → Bool) (e : LoadEnding) : (dropStored gone e s).lib = s.lib :=
  foldl_keeps (f := fun u (j : Job) => loadEnding j.slot e u) State.lib (fun _ _ => loadEnding_lib _ _ _) _ _

theorem dropJobs_eq (gone : Job → Bool) (e : LoadEnding) :
    dropJobs gone e s = { dropStored gone e s with lib := s.lib.drop gone } := by
  have hlib := dropStored_lib (s := s) gone e
  unfold dropStored at hlib ⊢
  unfold dropJobs Loader.drop
  dsimp only
  rw [hlib] <;> rfl

theorem dropStored_moves (gone : Job → Bool) (e : LoadEnding) : Moves a s (dropStored gone e s) :=
  Moves.foldl (fun _ _ => loadEnding_moves _ _) _ _

theorem Loader.headless_drop {x : Loader} (gone : Job → Bool) (h : x.headless) : (x.drop gone).headless := by
  obtain ⟨hscan, himage, hvalid, hmax, hrun⟩ := h
  refine ⟨hscan, himage, fun hj => hvalid fun hnil => hj (by simp [Loader.drop, hnil]),
    (List.length_filter_le _ _).trans hmax, ?_⟩
  unfold Loader.drop
  cases hjobs : x.jobs with
  | nil => exact fun hsome => absurd hjobs (hrun hsome)
  | cons j l => cases hgone : gone j <;> simp [hgone]

theorem cancelLoad_cases (p : PortId) (body : List Byte) :
    ((cancelLoad p body s).1 = s ∧ (cancelLoad p body s).2.status ≠ .done)
    ∨ (cancelLoad p body s).2.status = .done ∧ ∃ gone, (cancelLoad p body s).1 = dropJobs gone .cancelled s := by
  unfold cancelLoad ofLength
  split
  · dsimp only
    split
    · exact .inl ⟨rfl, by simp [refuse]⟩
    · split
      · split
        · exact .inr ⟨rfl, _, rfl⟩
        · exact .inl ⟨rfl, by simp [refuse]⟩
      · split
        · exact .inl ⟨rfl, by simp [refuse]⟩
        · exact .inl ⟨rfl, by simp [refuse]⟩
  · exact .inl ⟨rfl, by simp [refuse]⟩

theorem dropStored_headless {gone : Job → Bool} {e : LoadEnding} (h : LoaderConsistent (dropStored gone e s)) :
    (s.lib.drop gone).headless := by
  rw [LoaderConsistent, dropStored_lib] at h
  exact Loader.headless_drop gone (headless_of_consistent h)

theorem execCancelLoad_moves (p : PortId) {t : State} (h : execCancelLoad p s = .next t) : Moves a s t := by
  obtain rfl := Host.Outcome.next.inj h
  refine serveAt_moves fun body => ?_
  obtain ⟨hs, hstatus⟩ | ⟨hstatus, gone, hs⟩ := cancelLoad_cases (s := s) p body
  · rw [if_neg hstatus, hs]
    exact reply_moves p _
  · rw [if_pos hstatus, hs, dropJobs_eq]
    exact (dropStored_moves gone .cancelled).trans ((reply_moves p _).trans
      (startHead_moves (x := s.lib.drop gone) dropStored_headless))

theorem sessionEndLoader_moves (p : PortId) :
    Moves a s (startHead (dropJobs (fun j => j.port == p) .sessionEnded s)) := by
  rw [dropJobs_eq]
  exact (dropStored_moves _ _).trans (startHead_moves dropStored_headless)

theorem startToken_moves {t : State} (h : execStartToken s = .next t) : Moves a s t := by
  obtain rfl := Host.Outcome.next.inj h
  split
  · exact .single (.loader s _ fun h => h)
  · exact .refl

/-! ## The driver's answers and the driver-ready line (R119 to R128) -/

/-- A link that has lost its driver is in order. -/
theorem lost_consistent (l : Link) (hstate : l.state = .down ∨ l.state = .failed) (hid : l.identity = none)
    (hignore : l.ignore = false) (htimer : l.timer = none) : LinkConsistent { s with link := l } := by
  obtain hstate | hstate := hstate <;>
    simp [LinkConsistent, hstate, hid, hignore, htimer, LinkState.awaiting, Link.identityIn]

theorem execDrvRdyFall_moves {t : State} (h : execDrvRdyFall s = .next t) : Moves a s t := by
  obtain rfl := Host.Outcome.next.inj h
  split
  · exact .refl
  · exact .head (.link s _ fun _ => lost_consistent _ (.inl rfl) rfl rfl rfl)
      ((linkChanged_moves _).trans (toPlayer_moves _))

theorem execDrvRdyRise_moves {t : State} (h : execDrvRdyRise s = .next t) : Moves a s t := by
  obtain rfl := Host.Outcome.next.inj h
  split
  next hdown => exact linkComesUp_moves (.inl hdown.1)
  next => exact .refl

theorem execAnswerTimerExpiry_moves {t : State} (h : execAnswerTimerExpiry s = .next t) : Moves a s t := by
  obtain rfl := Host.Outcome.next.inj h
  split
  · refine expire_moves fun d => ?_
    exact .head (.link (s.elapse d) _ fun _ => lost_consistent _ (.inr rfl) rfl rfl rfl)
      ((linkChanged_moves _).trans (toPlayer_moves _))
  · exact .refl

theorem execLoadTransmissionEnd_moves (damage : Crc32) {t : State} (h : execLoadTransmissionEnd damage s = .next t) :
    Moves a s t := by
  obtain rfl := Host.Outcome.next.inj h
  split
  next hstate =>
    have hsent (id : Option Identity) (ignore : Bool) (hid : LinkConsistent s → ignore = true →
        (match id with | some i => i.stage = .pending | none => True)) :
        Moves a s { s with link := { s.link with
          state := .awaitLoaded, timer := some Config.answerTime, identity := id, ignore := ignore } } := by
      refine .single (.link s _ fun hl => ⟨rfl, by simp, by simp, fun hi => ?_, by simp⟩)
      have := hid hl hi
      cases id <;> simp_all [Link.identityIn]
    have hkept : Moves a s { s with link := { s.link with state := .awaitLoaded, timer := some Config.answerTime } } := by
      refine hsent s.link.identity s.link.ignore fun hl hi => ?_
      have := hl.2.2.2.1 hi
      unfold Link.identityIn at this
      split at this <;> simp_all
    dsimp only
    split
    next i hid =>
      split
      · exact (hsent none true fun _ _ => trivial).trans ((mismatchReport_moves _).trans (toPlayer_moves _))
      · exact hkept
    next => exact hkept
  next => exact .refl

/-- The link takes the answer that ends what it awaits, and becomes IDLE. -/
theorem becomeIdle_moves {l : Link} {e : List LinkEvent}
    (h : LinkConsistent s → l.ignore = false ∧ l.identityIn .pending .loaded = true) :
    Moves a s (becomeIdle { s with link := l, fromLink := e }) := by
  have hothers := congrArg (fun u : State => { u with link := s.link })
    (becomeIdle_others ({ s with link := l, fromLink := e } : State))
  refine (fromLink_moves e).tail (.of_link hothers fun hs => ?_)
  exact becomeIdle_consistent (h hs).1 (h hs).2

/-- An identity that is not under way while its answer is ignored stays so once nothing is ignored. -/
theorem identityIn_of_ignored (h : LinkConsistent s) (hi : s.link.ignore = true) :
    s.link.identityIn .pending .loaded = true := by
  have := h.2.2.2.1 hi
  unfold Link.identityIn at this ⊢
  split at this <;> simp_all

theorem execLoadedAnswer_moves {t : State} (h : execLoadedAnswer s = .next t) : Moves a s t := by
  obtain rfl := Host.Outcome.next.inj h
  split
  · split
    next hi => exact becomeIdle_moves fun hs => ⟨rfl, identityIn_of_ignored hs hi⟩
    next hi =>
      split
      · exact becomeIdle_moves fun _ => ⟨by simpa using hi, rfl⟩
      next hid => exact becomeIdle_moves fun _ => ⟨by simpa using hi, by simp [Link.identityIn, hid]⟩
  · exact .refl

theorem execRejectedAnswer_moves (reason : Byte) {t : State} (h : execRejectedAnswer reason s = .next t) :
    Moves a s t := by
  obtain rfl := Host.Outcome.next.inj h
  split
  · split
    next hi => exact becomeIdle_moves fun hs => ⟨rfl, identityIn_of_ignored hs hi⟩
    next hi =>
      split
      · exact becomeIdle_moves fun _ => ⟨by simpa using hi, rfl⟩
      next hid => exact becomeIdle_moves fun _ => ⟨by simpa using hi, by simp [Link.identityIn, hid]⟩
  · exact .refl

theorem execSwappedAnswer_moves {t : State} (h : execSwappedAnswer s = .next t) : Moves a s t := by
  obtain rfl := Host.Outcome.next.inj h
  split
  · dsimp only
    split
    next hi => exact becomeIdle_moves fun hs => ⟨rfl, identityIn_of_ignored hs hi⟩
    next hi =>
      split
      · exact becomeIdle_moves fun _ => ⟨by simpa using hi, rfl⟩
      next hid => exact becomeIdle_moves fun _ => ⟨by simpa using hi, by simp [Link.identityIn, hid]⟩
  · exact .refl

theorem execBlankedAnswer_moves {t : State} (h : execBlankedAnswer s = .next t) : Moves a s t := by
  obtain rfl := Host.Outcome.next.inj h
  split
  next hstate => exact becomeIdle_moves fun hs => hs.2.2.2.2 hstate
  next => exact .refl

/-! ## Triggers and lights (R106 to R115, R130, R131) -/

theorem Trigger.latch_setLatch (x y : Source) (l : Latch) (u : Trigger) :
    (u.setLatch x l).latch y = if x = y then l else u.latch y := by
  cases x <;> cases y <;> rfl

/-- Latches in order, each overrun flag on a set latch. -/
theorem overrun_iff_latch {x : Trigger} :
    ((x.latchA.overrun = true → x.latchA.pending = true) ∧ (x.latchB.overrun = true → x.latchB.pending = true)
      ∧ (x.latchSoft.overrun = true → x.latchSoft.pending = true))
    ↔ ∀ y, (x.latch y).overrun = true → (x.latch y).pending = true :=
  ⟨fun ⟨hA, hB, hS⟩ y => by cases y; exacts [hA, hB, hS], fun h => ⟨h .a, h .b, h .soft⟩⟩

/-- A latch is set, with or without its overrun flag, when no wait is on its source. -/
theorem setLatch_move {x : Source} {overrun : Bool}
    (h : LatchesConsistent s → ∀ w, s.trig.wait = some w → w.source ≠ x) :
    Move a s { s with trig := s.trig.setLatch x { pending := true, overrun := overrun } } := by
  have hwait : ∀ l, (s.trig.setLatch x l).wait = s.trig.wait := fun l => by cases x <;> rfl
  refine .trig s _ fun hs => ?_
  have hneq := h hs
  obtain ⟨hw, hlatches⟩ := hs
  refine ⟨?_, overrun_iff_latch.mpr fun y hy => ?_⟩
  · show match (s.trig.setLatch x _).wait with | some w => _ | none => True
    rw [hwait]
    split
    next w hsome =>
      rw [hsome] at hw
      rw [Trigger.latch_setLatch, if_neg (Ne.symm (hneq w hsome))]
      exact hw
    next => trivial
  · rw [Trigger.latch_setLatch] at hy ⊢
    split
    next => rfl
    next hxy => exact overrun_iff_latch.mp hlatches y (by rwa [if_neg hxy] at hy)

theorem triggerArrival_moves (x : Source) : Moves a s (triggerArrival x s) := by
  have hclear : Moves a s { s with trig := { s.trig with wait := none } } := cancelWait_moves
  unfold triggerArrival
  dsimp only
  split
  · split
    · exact hclear.trans (fromTrig_moves _)
    · exact .refl
  next hlatched =>
    refine .single (setLatch_move fun _ w hw hsrc => ?_)
    simp only [Trigger.outcome, hw, hsrc] at hlatched
    split at hlatched <;> cases hlatched
  next hoverrun =>
    split
    · exact .refl
    next =>
      have hpending : (s.trig.latch x).pending = true := by
        unfold Trigger.outcome at hoverrun
        split at hoverrun
        · assumption
        · split at hoverrun
          · split at hoverrun <;> cases hoverrun
          · cases hoverrun
      rw [hpending]
      refine .head (setLatch_move fun hs w hw hsrc => ?_) (notifyControl_moves _)
      have hclearLatch := hs.1
      simp only [hw, hsrc, hpending] at hclearLatch
      cases hclearLatch

theorem softTrigger_moves (p : PortId) (body : List Byte) : Moves a s (softTrigger p body s).1 := by
  refine ofLength_moves ?_
  split
  · exact triggerArrival_moves _
  · exact .refl

theorem configureTriggers_moves (p : PortId) (body : List Byte) : Moves a s (configureTriggers p body s).1 := by
  refine ofLength_moves (controlOnly_moves ?_)
  split
  · exact .single (.trig s _ fun h => h)
  · exact .refl

theorem execRecognisedLevelChange_moves (i : TrigInput) (level : Bool) {t : State}
    (h : execRecognisedLevelChange i level s = .next t) : Moves a s t := by
  obtain rfl := Host.Outcome.next.inj h
  dsimp only
  have hlevel : Moves a s { s with trig := s.trig.setLevel i level } := by
    cases i <;> exact .single (.trig s _ fun h => h)
  split
  · exact .refl
  · split
    · exact hlevel.trans (triggerArrival_moves _)
    · exact hlevel

theorem execTriggerTimeoutExpiry_moves {t : State} (h : execTriggerTimeoutExpiry s = .next t) : Moves a s t := by
  obtain rfl := Host.Outcome.next.inj h
  refine expire_moves fun d => ?_
  generalize s.elapse d = s
  split
  · exact (cancelWait_moves (s := s)).trans (fromTrig_moves _)
  · exact .refl

theorem execSyncPulseEnd_moves {t : State} (h : execSyncPulseEnd s = .next t) : Moves a s t := by
  obtain rfl := Host.Outcome.next.inj h
  exact expire_moves fun d => .single (.trig (s.elapse d) _ fun h => h)

theorem configureLights_moves (p : PortId) (body : List Byte) : Moves a s (configureLights p body s).1 :=
  ofLength_moves (controlOnly_moves (.head
    (.eachLight (fun c x => { x with limit := field2 body (2 * c.val) }) fun _ _ h => h)
    (Moves.foldl (fun _ c => forceIfPast_moves c) _ _)))

theorem execLightLimitExpiry_moves (c : ChannelId) {t : State} (h : execLightLimitExpiry c s = .next t) : Moves a s t := by
  obtain rfl := Host.Outcome.next.inj h
  exact expire_moves fun _ => forceOff_moves c

end
end Sys2Proof.Machine

/-! PROOF. What the player takes, and the submission queue, as runs of moves. -/

namespace Sys2Proof.Machine

set_option Elab.async false

section
variable {a : Leave} {s : State}

/-! ## What the player takes (R88 to R103) -/

theorem takeLoaded_moves (number idx : Nat) : Moves a s (takeLoaded number idx s) := by
  unfold takeLoaded
  split
  next k c hout =>
    split
    next h => exact endStaging_moves (.inr ⟨k, by rw [hout]; rfl⟩) (by simp [h.2.1])
    next => exact .refl
  next k c hout =>
    split
    next h => exact endStaging_moves (.inr ⟨k, by rw [hout]; rfl⟩) (by simp [h.2.1])
    next => exact .refl
  next k d hout =>
    split
    · exact showLoaded_moves idx hout
    · exact .refl
  next => exact .refl

theorem takeConsumption_moves (number : Nat) : Moves a s (takeConsumption number s) := by
  unfold takeConsumption
  split
  next k c hout =>
    split
    · split
      · exact beginSwap_moves _ (.inr ⟨k, hout⟩)
      · exact .refl
    · exact .refl
  next => exact .refl

theorem Context.phase_of_awaitsSwap {c : Context} {idx : Nat} {timer : Option Nat} (h : c.awaitsSwap idx timer = true) :
    c.phase = some .hold := by
  simp only [Context.awaitsSwap, Bool.and_eq_true, beq_iff_eq] at h
  exact h.1.1

theorem takeSwapped_moves (number idx : Nat) : Moves a s (takeSwapped number idx s) := by
  unfold takeSwapped
  split
  next k c hout =>
    split
    next h => exact showStep_moves (by rw [hout]; rfl) (Context.phase_of_awaitsSwap h.2)
    next => exact .refl
  next k c hout =>
    split
    next h => exact showStep_moves (by rw [hout]; rfl) (Context.phase_of_awaitsSwap h.2)
    next => exact .refl
  next k d hout =>
    split
    next x rest hshows =>
      split
      · exact showSwapped_moves hout hshows
      · exact .refl
    next => exact .refl
  next => exact .refl

theorem Output.number_of_context {o : Output} {k : Nat} {c : Context} (h : o.context? = some (k, c)) :
    o.number? = some k := by
  cases o <;> simp_all [Output.context?, Output.number?]

theorem given_of_context {k : Nat} {c : Context} (hgiven : a.stale ∨ s.player.numberGiven)
    (hout : s.player.out.context? = some (k, c)) : a.stale ∨ k ≤ s.player.lastNumber :=
  hgiven.imp_right fun h => by simpa [Player.numberGiven, Output.number_of_context hout] using h

theorem holdEnds_moves (hgiven : a.stale ∨ s.player.numberGiven) : Moves a s (holdEnds s) := by
  unfold holdEnds
  split
  next k c hout =>
    split
    next h => exact endHold_moves hout h (given_of_context hgiven hout)
    next => exact .refl
  next => exact .refl

theorem gapEnds_moves (hgiven : a.stale ∨ s.player.numberGiven) : Moves a s (gapEnds s) := by
  unfold gapEnds
  split
  next k c hout =>
    split
    next h =>
      exact stopTimers_moves.trans (endGap_moves (s := stopTimers s) hout rfl rfl (by simp [h]) (given_of_context hgiven hout))
    next => exact .refl
  next => exact .refl

theorem Output.number_after (o : Output) (d : Nat) : (o.after d).number? = o.number? := by
  cases o <;> rfl

theorem numberGiven_elapse (d : Nat) : (s.elapse d).player.numberGiven = s.player.numberGiven := by
  have hout : (s.elapse d).player.out.number? = s.player.out.number? := Output.number_after s.player.out d
  unfold Player.numberGiven
  rw [hout]
  rfl

theorem sessionEndPlayer_moves (p : PortId) : Moves a s (sessionEndPlayer p s) := by
  unfold sessionEndPlayer
  split
  · exact endDirect_moves.trans select_moves
  · exact .refl

theorem execSelectRequest_moves {t : State} (h : execSelectRequest s = .next t) : Moves a s t := by
  obtain rfl := Host.Outcome.next.inj h
  split
  · exact .refl
  · exact (selects_moves _).trans select_moves

theorem execLoadedTaken_moves {t : State} (h : execLoadedTaken s = .next t) : Moves a s t := by
  obtain rfl := Host.Outcome.next.inj h
  split
  · exact (fromLink_moves _).trans (takeLoaded_moves _ _)
  · exact .refl

theorem execSwappedTaken_moves {t : State} (h : execSwappedTaken s = .next t) : Moves a s t := by
  obtain rfl := Host.Outcome.next.inj h
  split
  · exact (fromLink_moves _).trans (takeSwapped_moves _ _)
  · exact .refl

theorem execConsumptionTaken_moves {t : State} (h : execConsumptionTaken s = .next t) : Moves a s t := by
  obtain rfl := Host.Outcome.next.inj h
  split
  · exact (fromTrig_moves _).trans (takeConsumption_moves _)
  · exact .refl

theorem execFaultTaken_moves (src : FaultSource) {t : State} (h : execFaultTaken src s = .next t) : Moves a s t := by
  obtain rfl := Host.Outcome.next.inj h
  cases src with
  | link =>
    dsimp only
    split
    · exact (fromLink_moves _).trans (takeFault_moves _)
    · split
      · exact .refl
      · exact (fromLink_moves _).trans (takeReport_moves _ _)
    · exact .refl
  | trigger =>
    dsimp only
    split
    · exact (fromTrig_moves _).trans (takeFault_moves _)
    · exact .refl
  | lights =>
    dsimp only
    split
    · exact (fromLights_moves _).trans (takeFault_moves _)
    · exact .refl

theorem execLinkReportTaken_moves {t : State} (h : execLinkReportTaken s = .next t) : Moves a s t := by
  obtain rfl := Host.Outcome.next.inj h
  split
  · exact (fromLink_moves _).trans (takeReport_moves _ _)
  · exact .refl

/-! ## The submission queue (R62 to R74) -/

theorem submit_moves (p : PortId) (body : List Byte) : Moves a s (submit p body s).1 := by
  refine ofLength_moves ?_
  dsimp only
  split
  · exact .refl
  next n _ =>
    split
    · exact .refl
    next hlevel =>
      split
      · exact .refl
      · split
        · exact .refl
        · split
          · exact .refl
          · split
            · exact .refl
            next hsize =>
              split
              · exact .refl
              next u hu =>
                have hqueue : u.queue = s.queue := by
                  obtain ⟨-, rfl⟩ := useRaise_eq hu
                  rfl
                have hjoin := Move.join (a := a) s u
                  { level := field1 body 1, port := p, ask := .play (tagAt body 2) n (field2 body 4) } hu
                  ⟨show 1 ≤ field1 body 1 by omega, show field1 body 1 ≤ 7 by omega⟩ (by omega)
                rw [← hqueue] at hjoin
                exact .single hjoin

theorem requestDirect_moves (p : PortId) (body : List Byte) : Moves a s (requestDirect p body s).1 := by
  refine ofLength_moves ?_
  dsimp only
  split
  · exact .refl
  next hlevel =>
    split
    · exact .refl
    · split
      · exact .refl
      next hsize =>
        exact .single (.join s s { level := field1 body 0, port := p, ask := .direct } rfl
          ⟨show 1 ≤ field1 body 0 by omega, show field1 body 0 ≤ 6 by omega⟩ (by omega))

theorem cancelAtQueue_moves (p : PortId) : Moves a s (cancelAtQueue p s) := by
  unfold cancelAtQueue
  split
  · exact .refl
  next e _ =>
    split
    · exact reply_moves _ _
    · split
      next r hr =>
        refine .trans ?_ (reply_moves _ _)
        unfold cancelChecks at hr
        split at hr
        · cases hr; exact .refl
        · split at hr
          · split at hr
            · cases hr
            · cases hr; exact .refl
          · split at hr
            · cases hr; exact .refl
            · split at hr
              · cases hr; exact .refl
              · split at hr
                next he => cases hr; exact removeEntry_moves _ (List.mem_of_find?_eq_some he)
                · cases hr
      next => exact moveRequest_moves _ _

end
end Sys2Proof.Machine

/-! PROOF. A port's accounts under everything that happens at the port. -/

namespace Sys2Proof.Machine

set_option Elab.async false

/-! ## A port's accounts (R144 to R169) -/

/-- Item numbers rise by 1 from head to tail and end just below the next one (R167). -/
def numbered (l : List Item) (next : Word16) : Prop :=
  ∀ i : Fin l.length, (l[i]).number = next - BitVec.ofNat 16 (l.length - i.val)

theorem numbered_append {l : List Item} {next : Word16} {x : Item} (h : numbered l next) (hx : x.number = next) :
    numbered (l ++ [x]) (next + 1) := by
  rintro ⟨i, hi⟩
  have hi' : i < l.length + 1 := by simpa using hi
  simp only [Fin.getElem_fin, List.length_append, List.length_singleton]
  by_cases hlast : i < l.length
  · have hitem := h ⟨i, hlast⟩
    simp only [Fin.getElem_fin] at hitem
    rw [List.getElem_append_left hlast, hitem, show l.length + 1 - i = (l.length - i) + 1 by omega, BitVec.ofNat_add]
    generalize BitVec.ofNat 16 (l.length - i) = y
    bv_omega
  · obtain rfl : i = l.length := by omega
    rw [List.getElem_append_right (Nat.le_refl _)]
    simp [hx]

theorem numbered_tail {l : List Item} {next : Word16} (h : numbered l next) : numbered l.tail next := by
  rintro ⟨i, hi⟩
  have hi' : i + 1 < l.length := by
    rw [List.length_tail] at hi
    omega
  have hitem := h ⟨i + 1, hi'⟩
  simp only [Fin.getElem_fin] at hitem
  simp only [Fin.getElem_fin, List.getElem_tail, List.length_tail, hitem]
  congr 2
  omega

/-- The item that a READ under way sends is the head of the queue (R147). -/
def sendsHead (txn : Option Txn) (outbound : List Item) : Prop :=
  match txn with
  | some (.reading .read _ x) => x.kind ≠ .empty → outbound.head? = some x
  | _ => True

theorem sendsHead_append {txn : Option Txn} {l : List Item} (x : Item) (h : sendsHead txn l) : sendsHead txn (l ++ [x]) := by
  unfold sendsHead at h ⊢
  split
  next y => exact fun hy => by rw [List.head?_append, h hy]; rfl
  next => trivial

/-- The request in execution, as the outstanding count counts it (R161). -/
def busy (inExec : Option InExec) (stale : Bool) : Nat := if inExec.isSome = true ∧ stale = false then 1 else 0

/-- The items of a kind in a queue. -/
def itemsOf (k : ItemKind) (l : List Item) : Nat := l.countP fun x => x.kind == k

theorem itemsOf_append (k : ItemKind) (l : List Item) (x : Item) :
    itemsOf k (l ++ [x]) = itemsOf k l + if x.kind = k then 1 else 0 := by
  simp [itemsOf, List.countP_append, List.countP_cons]

theorem itemsOf_cons (k : ItemKind) (l : List Item) (x : Item) :
    itemsOf k (x :: l) = itemsOf k l + if x.kind = k then 1 else 0 := by
  simp [itemsOf, List.countP_cons]

/-- A port's accounts, by what they turn on. -/
theorem Port.accounted_iff {q : Port} :
    q.accounted ↔
      q.outstanding = q.inbound.length + busy q.inExec q.stale + itemsOf .reply q.outbound
      ∧ q.outstanding ≤ Config.maxOutstanding ∧ itemsOf .notice q.outbound ≤ Config.maxNotices
      ∧ numbered q.outbound q.nextNumber ∧ (q.stale = true → q.inExec.isSome = true) ∧ sendsHead q.txn q.outbound :=
  Iff.rfl

theorem Port.not_stale {q : Port} (h : q.accounted) (hexec : q.inExec = none) : q.stale = false := by
  obtain ⟨-, -, -, -, hstale, -⟩ := Port.accounted_iff.mp h
  cases hs : q.stale with
  | false => rfl
  | true => simpa [hexec] using hstale hs

/-- The oldest request of the list is answered by the port (R163). -/
theorem Port.accounted_joinReply {q : Port} {r : Request} {rest : List Request} (tag : Byte) (st : Status) (body : List Byte)
    (h : Port.accounted { q with inbound := r :: rest }) :
    Port.accounted { q.joinReply tag st body with inbound := rest } := by
  obtain ⟨hout, hmax, hnotices, hnumbers, hstale, htxn⟩ := Port.accounted_iff.mp h
  refine Port.accounted_iff.mpr ⟨?_, hmax, ?_, numbered_append hnumbers rfl, hstale, sendsHead_append _ htxn⟩
  · simp only [Port.joinReply, itemsOf_append, List.length_cons, if_true] at hout ⊢
    omega
  · simpa only [Port.joinReply, itemsOf_append, reduceCtorEq, if_false, Nat.add_zero] using hnotices

theorem Port.accounted_startFrom {q : Port} {l : List Request} (h : Port.accounted { q with inbound := l })
    (hexec : q.inExec = none) : (q.startFrom l).accounted := by
  induction l generalizing q with
  | nil => exact h
  | cons r rest ih =>
    have hanswered : ∀ st, ((q.joinReply r.tag st []).startFrom rest).accounted := fun st =>
      ih (Port.accounted_joinReply _ _ _ h) hexec
    unfold Port.startFrom
    split
    · exact hanswered _
    · split
      · exact hanswered _
      · split
        · exact h
        · split
          · have hstale : q.stale = false := Port.not_stale (q := { q with inbound := r :: rest }) h hexec
            obtain ⟨hout, hmax, hnotices, hnumbers, -, htxn⟩ := Port.accounted_iff.mp h
            refine Port.accounted_iff.mpr ⟨?_, hmax, hnotices, hnumbers, fun _ => rfl, htxn⟩
            simpa [busy, hexec, hstale] using hout
          · exact hanswered _

theorem Port.accounted_start {q : Port} (h : q.accounted) : q.start.accounted := by
  unfold Port.start
  split
  · exact h
  next hexec => exact Port.accounted_startFrom h (by simpa using hexec)

theorem Port.accounted_accept {q : Port} (r : Request) (h : q.accounted) : (q.accept r).accounted := by
  unfold Port.accept
  split
  next hlt =>
    refine Port.accounted_start ?_
    obtain ⟨hout, -, hnotices, hnumbers, hstale, htxn⟩ := Port.accounted_iff.mp h
    refine Port.accounted_iff.mpr ⟨?_, hlt, hnotices, hnumbers, hstale, htxn⟩
    dsimp only
    rw [List.length_append, List.length_singleton]
    omega
  next => exact h

/-- A transaction that has ended leaves a port's accounts as they are. -/
theorem Port.accounted_ignore {q : Port} (clocked : Nat) (h : q.accounted) : (q.ignore clocked).accounted := by
  obtain ⟨hout, hmax, hnotices, hnumbers, hstale, -⟩ := Port.accounted_iff.mp h
  exact Port.accounted_iff.mpr ⟨hout, hmax, hnotices, hnumbers, hstale, trivial⟩

theorem Port.accounted_endWrite {q : Port} (bytes : List Byte) (h : q.accounted) : (q.endWrite bytes).accounted := by
  unfold Port.endWrite
  dsimp only
  split
  · exact (Port.accounted_ignore bytes.length h :)
  · exact Port.accounted_accept _ (Port.accounted_ignore _ h)

theorem Port.accounted_endReadAgain {q : Port} (x : Byte × Item) (clocked : Nat) (h : q.accounted) :
    (q.endReadAgain x clocked).accounted := by
  have hreported : (q.reported clocked).accounted := by
    unfold Port.reported
    split <;> exact h
  obtain ⟨hout, hmax, hnotices, hnumbers, hstale, -⟩ := Port.accounted_iff.mp hreported
  exact Port.accounted_iff.mpr ⟨hout, hmax, hnotices, hnumbers, hstale, trivial⟩

theorem Port.endReadAgain_outbound (q : Port) (x : Byte × Item) (clocked : Nat) :
    (q.endReadAgain x clocked).outbound = q.outbound ∧ (q.endReadAgain x clocked).txn = none := by
  unfold Port.endReadAgain Port.reported
  split <;> exact ⟨rfl, rfl⟩

/-- The head of the queue is delivered (R147). -/
theorem Port.accounted_deliver {q : Port} {x : Item} (hx : q.outbound.head? = some x) (htxn : q.txn = none)
    (h : q.accounted) : (q.deliver x).accounted := by
  obtain ⟨hout, hmax, hnotices, hnumbers, hstale, -⟩ := Port.accounted_iff.mp h
  obtain ⟨l, hl⟩ : ∃ l, q.outbound = x :: l := by
    cases hq : q.outbound with
    | nil => simp [hq] at hx
    | cons y l => rw [hq] at hx; exact ⟨l, by rw [Option.some.inj hx]⟩
  refine Port.accounted_iff.mpr ⟨?_, ?_, ?_, numbered_tail hnumbers, hstale, ?_⟩
  · rw [hl, itemsOf_cons] at hout
    simp only [Port.deliver, hl, List.tail_cons]
    split at hout
    next hk => rw [if_pos hk]; omega
    next hk => rw [if_neg hk]; exact hout
  · unfold Port.deliver
    dsimp only
    split <;> omega
  · rw [hl, itemsOf_cons] at hnotices
    simp only [Port.deliver, hl, List.tail_cons]
    omega
  · show sendsHead q.txn _
    rw [htxn]
    trivial

/-- An item that is not EMPTY and that a READ sends is the head of the queue. -/
theorem Port.fixed_head {q : Port} (h : q.accounted) (htxn : ∀ t, q.txn = some t → t.direction = .read ∧ t ≠ .ignored .read)
    (hkind : (q.fixed .read).2.kind ≠ .empty) : q.outbound.head? = some (q.fixed .read).2 := by
  have hpick : (q.pick .read).kind ≠ .empty → q.outbound.head? = some (q.pick .read) := fun hk => by
    unfold Port.pick at hk ⊢
    cases hq : q.outbound.head? with
    | none => simp [hq, Item.emptyItem] at hk
    | some x => rfl
  obtain ⟨-, -, -, -, -, hsends⟩ := Port.accounted_iff.mp h
  cases ht : q.txn with
  | none => simp only [Port.fixed, ht] at hkind ⊢; exact hpick hkind
  | some t =>
    cases t with
    | reading kind status x =>
      cases kind with
      | read => simp only [Port.fixed, ht, sendsHead] at hkind hsends ⊢; exact hsends hkind
      | readAgain => cases (htxn _ ht).1
    | write => simp only [Port.fixed, ht] at hkind ⊢; exact hpick hkind
    | portReset => simp only [Port.fixed, ht] at hkind ⊢; exact hpick hkind
    | ignored d => simp only [Port.fixed, ht] at hkind ⊢; exact hpick hkind

theorem Port.accounted_endRead {q : Port} (clocked : Nat) (h : q.accounted)
    (htxn : ∀ t, q.txn = some t → t.direction = .read ∧ t ≠ .ignored .read) :
    (q.endRead (q.fixed .read) clocked).accounted := by
  unfold Port.endRead
  dsimp only
  split
  next hkind =>
    obtain ⟨hout, hnone⟩ := Port.endReadAgain_outbound q (q.fixed .read) clocked
    exact Port.accounted_deliver (by rw [hout]; exact Port.fixed_head h htxn hkind.1) hnone (Port.accounted_endReadAgain _ _ h)
  next => exact Port.accounted_endReadAgain _ _ h

theorem Port.accounted_takeReply {q : Port} (st : Status) (body : List Byte) (h : q.accounted) :
    (q.takeReply st body).accounted := by
  obtain ⟨hout, hmax, hnotices, hnumbers, hstale, htxn⟩ := Port.accounted_iff.mp h
  unfold Port.takeReply
  split
  · exact h
  next e he =>
    split
    next hs =>
      refine Port.accounted_start (Port.accounted_iff.mpr ⟨?_, hmax, hnotices, hnumbers, nofun, htxn⟩)
      simpa [hs, busy] using hout
    next hs =>
      refine Port.accounted_start (Port.accounted_iff.mpr
        ⟨?_, hmax, ?_, numbered_append hnumbers rfl, fun hstale' => absurd hstale' hs, sendsHead_append _ htxn⟩)
      · simp only [Port.joinReply, itemsOf_append, if_true, busy] at hout ⊢
        simp only [he, Option.isSome_some, Bool.not_eq_true _ ▸ hs, and_self, if_true] at hout
        simpa [Nat.add_assoc, Nat.add_comm 1] using hout
      · simpa only [Port.joinReply, itemsOf_append, reduceCtorEq, if_false, Nat.add_zero] using hnotices

theorem Port.accounted_takeNotice {q : Port} (n : Notice) (h : q.accounted) : (q.takeNotice n).accounted := by
  obtain ⟨hout, hmax, hnotices, hnumbers, hstale, htxn⟩ := Port.accounted_iff.mp h
  unfold Port.takeNotice
  split
  · exact h
  · split
    · exact h
    next hroom =>
      refine Port.accounted_iff.mpr ⟨?_, hmax, ?_, numbered_append hnumbers rfl, hstale, sendsHead_append _ htxn⟩
      · simpa only [itemsOf_append, reduceCtorEq, if_false, Nat.add_zero] using hout
      · simp only [itemsOf_append, if_true]
        exact Nat.lt_of_not_le hroom

theorem Port.accounted_begin {q : Port} (d : Direction) (h : q.accounted) : (q.begin d).accounted := by
  obtain ⟨hout, hmax, hnotices, hnumbers, hstale, -⟩ := Port.accounted_iff.mp h
  refine Port.accounted_iff.mpr ⟨hout, hmax, hnotices, hnumbers, hstale, ?_⟩
  cases d with
  | read =>
    show (q.pick .read).kind ≠ .empty → q.outbound.head? = some (q.pick .read)
    unfold Port.pick
    cases q.outbound.head? with
    | none => simp [Item.emptyItem]
    | some x => exact fun _ => rfl
  | write | readAgain | portReset => trivial

end Sys2Proof.Machine

/-! PROOF. The rows of the ports and the release of RESET_n, as runs of moves. -/

namespace Sys2Proof.Machine

set_option Elab.async false

section
variable {a : Leave} {s : State}

/-! ## The rows of the ports (R145 to R169) -/

theorem setPort_moves (p : PortId) {q : Port} (h : (s.port p).accounted → q.accounted) : Moves a s (s.setPort p q) :=
  .single (.setPort p q h)

theorem takeRise_moves {p : PortId} {d : Direction} {clocked : Nat} {act : State → State}
    (h : (∀ t, (s.port p).txn = some t → t.direction = d ∧ t ≠ .ignored d) → Moves a s (act s)) :
    Moves a s (takeRise p d clocked act s) := by
  obtain ⟨hs, -⟩ | ⟨hs, -⟩ | ⟨hs, -, htxn⟩ := takeRise_cases p d clocked act s
  · exact .of_eq hs
  · rw [hs]
    exact setPort_moves p (Port.accounted_ignore clocked)
  · rw [hs]
    exact h htxn

theorem execWrite_moves (p : PortId) (bytes : List Byte) {t : State} (h : execWrite p bytes s = .next t) : Moves a s t := by
  obtain rfl := Host.Outcome.next.inj h
  exact takeRise_moves fun _ => setPort_moves p (Port.accounted_endWrite bytes)

theorem execRead_moves (p : PortId) (clocked : Nat) {t : State} (h : execRead p clocked s = .next t) : Moves a s t := by
  obtain rfl := Host.Outcome.next.inj h
  exact takeRise_moves fun htxn => setPort_moves p fun hq => Port.accounted_endRead clocked hq htxn

theorem execReadAgain_moves (p : PortId) (clocked : Nat) {t : State} (h : execReadAgain p clocked s = .next t) :
    Moves a s t := by
  obtain rfl := Host.Outcome.next.inj h
  exact takeRise_moves fun _ => setPort_moves p (Port.accounted_endReadAgain _ clocked)

theorem Port.accounted_directionSent {q : Port} (d : Option Direction) (hq : q.accounted) :
    Port.accounted { q.directionSent with txn := d.map Txn.ignored } := by
  obtain ⟨hout, hmax, hnotices, hnumbers, hstale, -⟩ := Port.accounted_iff.mp hq
  exact Port.accounted_iff.mpr ⟨hout, hmax, hnotices, hnumbers, hstale, by cases d <;> trivial⟩

theorem execDirectionByteEnd_moves (p : PortId) (first : DirectionByte) {t : State}
    (h : execDirectionByteEnd p first s = .next t) : Moves a s t := by
  obtain rfl := Host.Outcome.next.inj h
  split
  · exact .refl
  · refine setPort_moves p fun hq => ?_
    split
    next d _ =>
      split
      · exact Port.accounted_begin d hq
      · exact Port.accounted_directionSent (some d) hq
    next => exact hq

theorem endSession_moves (p : PortId) : Moves a s (s.endSession p) :=
  (setPort_moves p (q := { s.port p with sessionOpen := false }) fun h => h).trans (announcements_moves _)

theorem portReset_moves (p : PortId) : Moves a s (portReset p s) := by
  have hsession : Moves a s (if (s.port p).sessionOpen then s.endSession p else s) := by
    split
    · exact endSession_moves p
    · exact .refl
  refine hsession.trans (setPort_moves p fun _ => Port.accounted_iff.mpr ?_)
  generalize (if (s.port p).sessionOpen = true then s.endSession p else s).port p = q
  refine ⟨?_, Nat.zero_le _, Nat.zero_le _, nofun, id, ?_⟩
  · cases hexec : q.inExec <;> simp [busy, itemsOf]
  · cases q.txn <;> trivial

theorem execPortReset_moves (p : PortId) {t : State} (h : execPortReset p s = .next t) : Moves a s t := by
  obtain rfl := Host.Outcome.next.inj h
  exact takeRise_moves fun _ => (portReset_moves p).trans (setPort_moves p (Port.accounted_ignore 0))

theorem execPrstFall_moves (p : PortId) {t : State} (h : execPrstFall p s = .next t) : Moves a s t := by
  obtain rfl := Host.Outcome.next.inj h
  split
  · exact .refl
  · exact (portReset_moves p).trans (setPort_moves p fun h => h)

theorem execPrstRise_moves (p : PortId) {t : State} (h : execPrstRise p s = .next t) : Moves a s t := by
  obtain rfl := Host.Outcome.next.inj h
  exact setPort_moves p fun h => h

theorem execReplyArrival_moves (p : PortId) {t : State} (h : execReplyArrival p s = .next t) : Moves a s t := by
  obtain rfl := Host.Outcome.next.inj h
  split
  · exact setPort_moves p fun hq => Port.accounted_takeReply _ _ hq
  · exact .refl

theorem execNoticeArrival_moves (p : PortId) {t : State} (h : execNoticeArrival p s = .next t) : Moves a s t := by
  obtain rfl := Host.Outcome.next.inj h
  split
  · exact setPort_moves p fun hq => Port.accounted_takeNotice _ hq
  · exact .refl

/-! ## The commands that a port executes itself (R155, R156, R159) -/

/-- An action of a port on itself alone: its session, and announcements. -/
def OwnAction (p : PortId) (act : List Byte → State → State × Answer) : Prop :=
  ∀ body s, ∃ isOpen number l, (act body s).1 =
    { s.setPort p { s.port p with sessionOpen := isOpen, sessionNo := number } with announcements := l }

theorem ownAction_unchanged {p : PortId} {u : State} (h : u = s) : ∃ isOpen number l, u =
    { s.setPort p { s.port p with sessionOpen := isOpen, sessionNo := number } with announcements := l } :=
  ⟨(s.port p).sessionOpen, (s.port p).sessionNo, s.announcements,
    h.trans (State.setPort_port s p).symm⟩

theorem openSession_own (p : PortId) : OwnAction p (openSession p) := fun body s => by
  unfold openSession
  dsimp only
  split
  · exact ownAction_unchanged rfl
  · split
    · exact ownAction_unchanged rfl
    · exact ⟨true, (s.port p).sessionNo + 1, s.announcements, rfl⟩

theorem closeSession_own (p : PortId) : OwnAction p (closeSession p) := fun body s => by
  unfold closeSession
  split
  · exact ownAction_unchanged rfl
  · split
    · exact ⟨false, (s.port p).sessionNo, _, rfl⟩
    · exact ownAction_unchanged rfl

theorem deviceInfo_own (p : PortId) : OwnAction p (deviceInfo p) := fun body s => by
  unfold deviceInfo
  dsimp only
  split
  · exact ownAction_unchanged rfl
  · exact ownAction_unchanged rfl

theorem Port.ownRequest_eq {q : Port} {cmd : Command} {r : Request} {rest : List Request}
    (h : q.ownRequest cmd = some (r, rest)) :
    q.inExec = none ∧ q.inbound = r :: rest ∧ r.duplicate = false ∧ Command.ofCode r.code = some cmd := by
  unfold Port.ownRequest at h
  split at h
  next r' rest' hexec hin =>
    split at h
    next hcmd =>
      cases h
      exact ⟨hexec, hin, hcmd⟩
    · cases h
  · cases h

theorem ownCommand_moves {cmd : Command} {p : PortId} {act : List Byte → State → State × Answer} (hact : OwnAction p act) :
    Moves a s (ownCommand cmd p act s) := by
  unfold ownCommand
  split
  · exact .refl
  next r rest hown =>
    obtain ⟨-, hin, -⟩ := Port.ownRequest_eq hown
    dsimp only
    obtain ⟨isOpen, number, l, heq⟩ := hact r.body (s.setPort p { s.port p with inbound := rest })
    rw [heq]
    generalize (act r.body (s.setPort p { s.port p with inbound := rest })).2 = x
    refine (announcements_moves l).trans ?_
    have hset : ∀ q q', (({ (s.setPort p q).setPort p q' with announcements := l } : State)) =
        ({ s with announcements := l } : State).setPort p q' := fun q q' => by
      rw [State.setPort_setPort]
      rfl
    rw [hset, State.setPort_setPort, State.port_setPort, if_pos rfl, State.port_setPort, if_pos rfl]
    refine setPort_moves p fun hq => Port.accounted_start ?_
    have hq' : Port.accounted { s.port p with inbound := r :: rest } := by rw [← hin]; exact hq
    exact (Port.accounted_joinReply (q := { s.port p with sessionOpen := isOpen, sessionNo := number }) _ _ _ hq' :)

/-! ## The release of RESET_n (R37, R105, R118, R152) -/

theorem sampleClasses_moves (straps : BitVec 4) : Moves a s (sampleClasses straps s) := by
  refine .single (.ports s _ fun p hp => ?_)
  show ((sampleClasses straps s).port p).accounted
  rw [sampleClasses, State.port_eachPort]
  exact hp

theorem resetRelease_moves (straps : BitVec 4) (drvRdy trgA trgB : Bool) :
    Moves a s (resetRelease straps drvRdy trgA trgB s) := by
  refine .head (.handed s false s.announcements s.selects s.fromLink s.fromTrig s.fromLights s.pending) ?_
  refine .head (.trig _ { s.trig with levelA := trgA, levelB := trgB } fun h => h) ?_
  refine .head (.link _ (if drvRdy then Link.afterReset.sendBlank else Link.afterReset) fun _ => ?_) ?_
  · cases drvRdy <;> simp [LinkConsistent, Link.afterReset, Link.sendBlank, LinkState.awaiting, Link.identityIn]
  refine .head (.notes _ s.player.holdTimer s.player.gapTimer s.player.faultRecord s.player.haltRecord drvRdy) ?_
  exact (sampleClasses_moves straps).trans (startScan_moves (x := Loader.afterReset) fun _ => ⟨rfl, rfl⟩)

theorem execResetRelease_moves (straps : BitVec 4) (drvRdy trgA trgB : Bool) {t : State}
    (h : execResetRelease straps drvRdy trgA trgB s = .next t) : Moves a s t := by
  obtain rfl := Host.Outcome.next.inj h
  split
  · exact resetRelease_moves straps drvRdy trgA trgB
  · exact .refl

end
end Sys2Proof.Machine

/-! PROOF. Every command but a chip reset is a run of moves, and so is every step but one that takes a chip reset. -/

namespace Sys2Proof.Machine

set_option Elab.async false

/-! ## Reporting requests -/

/-- A request that only reports leaves the state as it was. -/
def Reports (act : List Byte → State → State × Answer) : Prop := ∀ body s, (act body s).1 = s

theorem Reports.ofLength {n : Nat} {act : List Byte → State → State × Answer} (h : Reports act) :
    Reports (ofLength n act) := fun body s => by
  unfold Machine.ofLength
  split
  · exact h body s
  · rfl

theorem slotStatus_reports : Reports slotStatus := .ofLength fun _ _ => by
  dsimp only
  split <;> rfl

theorem libraryStatus_reports : Reports libraryStatus := .ofLength fun _ _ => by
  split <;> rfl

theorem libraryEntry_reports : Reports libraryEntry := .ofLength fun _ _ => by
  split
  · rfl
  · split <;> rfl

theorem sequenceStatus_reports : Reports sequenceStatus := .ofLength fun _ _ => by
  dsimp only
  split <;> rfl

theorem readSteps_reports : Reports readSteps := .ofLength fun _ _ => by
  dsimp only
  split
  · rfl
  · split
    · rfl
    · split <;> rfl

theorem queueStatus_reports : Reports queueStatus := .ofLength fun _ _ => rfl
theorem playerStatus_reports : Reports playerStatus := .ofLength fun _ _ => rfl
theorem triggerStatus_reports : Reports triggerStatus := .ofLength fun _ _ => rfl
theorem linkStatus_reports : Reports linkStatus := .ofLength fun _ _ => rfl

section
variable {a : Leave} {s : State}

theorem Reports.moves {act : List Byte → State → State × Answer} (h : Reports act) (body : List Byte) :
    Moves a s (act body s).1 :=
  .of_eq (h body s)

/-! ## Every command -/

/-- Every command but a chip reset is a run of moves. Only the player's timers may write back a context of an earlier holding,
and only if the present holding number has not been given. -/
theorem exec_moves {i : Instr} {t : State} (h : exec i s = .next t) (hchip : ∀ straps, i ≠ .chipReset straps)
    (hgiven : a.stale ∨ s.player.numberGiven) (hlevel : ∀ p, i = .setHoldLevel p → a.holdLevel)
    (hdesignate : ∀ p, i = .setFallback p → a.designate) : Moves a s t := by
  cases i with
  | write p bytes => exact execWrite_moves p bytes h
  | read p clocked => exact execRead_moves p clocked h
  | readAgain p clocked => exact execReadAgain_moves p clocked h
  | portReset p => exact execPortReset_moves p h
  | prstFall p => exact execPrstFall_moves p h
  | prstRise p => exact execPrstRise_moves p h
  | chipReset straps => exact absurd rfl (hchip straps)
  | resetRelease straps drvRdy trgA trgB => exact execResetRelease_moves straps drvRdy trgA trgB h
  | replyArrival p => exact execReplyArrival_moves p h
  | noticeArrival p => exact execNoticeArrival_moves p h
  | openSession p => exact Host.Outcome.next.inj h ▸ ownCommand_moves (openSession_own p)
  | closeSession p => exact Host.Outcome.next.inj h ▸ ownCommand_moves (closeSession_own p)
  | deviceInfo p => exact Host.Outcome.next.inj h ▸ ownCommand_moves (deviceInfo_own p)
  | allocateSlot p => exact Host.Outcome.next.inj h ▸ serve_moves (allocateSlot_moves p)
  | openFill p => exact Host.Outcome.next.inj h ▸ serve_moves (openFill_moves p)
  | writePlane p => exact Host.Outcome.next.inj h ▸ serve_moves (writePlane_moves p)
  | closeFill p => exact Host.Outcome.next.inj h ▸ serve_moves (closeFill_moves p)
  | abandonFill p => exact Host.Outcome.next.inj h ▸ serve_moves (abandonFill_moves p)
  | freeSlot p => exact Host.Outcome.next.inj h ▸ serve_moves (freeSlot_moves p)
  | slotStatus p => exact Host.Outcome.next.inj h ▸ serve_moves slotStatus_reports.moves
  | libraryStatus p => exact Host.Outcome.next.inj h ▸ serve_moves libraryStatus_reports.moves
  | libraryEntry p => exact Host.Outcome.next.inj h ▸ serve_moves libraryEntry_reports.moves
  | rescanLibrary p => exact Host.Outcome.next.inj h ▸ serve_moves (rescanLibrary_moves p)
  | loadPlanes p => exact execLoadPlanes_moves p h
  | cancelLoad p => exact execCancelLoad_moves p h
  | createSequence p => exact Host.Outcome.next.inj h ▸ serve_moves (createSequence_moves p)
  | appendSteps p => exact Host.Outcome.next.inj h ▸ serve_moves (appendSteps_moves p)
  | removeSteps p => exact Host.Outcome.next.inj h ▸ serve_moves (removeSteps_moves p)
  | setRepeat p => exact Host.Outcome.next.inj h ▸ serve_moves (setRepeat_moves p)
  | sealSequence p => exact Host.Outcome.next.inj h ▸ serve_moves (sealSequence_moves p)
  | unsealSequence p => exact Host.Outcome.next.inj h ▸ serve_moves (unsealSequence_moves p)
  | deleteSequence p => exact Host.Outcome.next.inj h ▸ serve_moves (deleteSequence_moves p)
  | sequenceStatus p => exact Host.Outcome.next.inj h ▸ serve_moves sequenceStatus_reports.moves
  | readSteps p => exact Host.Outcome.next.inj h ▸ serve_moves readSteps_reports.moves
  | submit p => exact Host.Outcome.next.inj h ▸ serveThen_moves (submit_moves p) fun _ => selects_moves _
  | requestDirect p => exact Host.Outcome.next.inj h ▸ serveThen_moves (requestDirect_moves p) fun _ => selects_moves _
  | cancel p => exact Host.Outcome.next.inj h ▸ cancelAtQueue_moves p
  | cancelContext p =>
    refine Host.Outcome.next.inj h ▸ serveAt_moves fun body => ?_
    split
    · exact (cancelContext_moves body).trans ((reply_moves p _).trans selectIfIdle_moves)
    · exact (cancelContext_moves body).trans (reply_moves p _)
  | cancelFallback p =>
    refine Host.Outcome.next.inj h ▸ serveAt_moves fun body => ?_
    split
    · exact (cancelFallback_moves body).trans ((reply_moves p _).trans selectIfIdle_moves)
    · exact (cancelFallback_moves body).trans (reply_moves p _)
  | queueStatus p => exact Host.Outcome.next.inj h ▸ serve_moves queueStatus_reports.moves
  | setHoldLevel p =>
    exact Host.Outcome.next.inj h ▸ serveThen_moves (fun body => setHoldLevel_moves p body (hlevel p rfl)) fun _ => select_moves
  | setFallback p =>
    exact Host.Outcome.next.inj h ▸ serve_moves fun body => setFallback_moves p body (hdesignate p rfl)
  | clearHalt p => exact Host.Outcome.next.inj h ▸ serveThen_moves (clearHalt_moves p) fun _ => select_moves
  | resetPlayer p => exact Host.Outcome.next.inj h ▸ serve_moves (resetPlayer_moves p)
  | playerStatus p => exact Host.Outcome.next.inj h ▸ serve_moves playerStatus_reports.moves
  | configureTriggers p => exact Host.Outcome.next.inj h ▸ serve_moves (configureTriggers_moves p)
  | trigger p => exact Host.Outcome.next.inj h ▸ serve_moves (softTrigger_moves p)
  | triggerStatus p => exact Host.Outcome.next.inj h ▸ serve_moves triggerStatus_reports.moves
  | configureLights p => exact Host.Outcome.next.inj h ▸ serve_moves (configureLights_moves p)
  | linkStatus p => exact Host.Outcome.next.inj h ▸ serve_moves linkStatus_reports.moves
  | acceptDirect p => exact Host.Outcome.next.inj h ▸ serveThen_moves (acceptDirect_moves p) fun _ => select_moves
  | showPlane p => exact Host.Outcome.next.inj h ▸ serveThen_moves (showPlane_moves p) fun _ => selectForHead_moves
  | releaseDirect p =>
    refine Host.Outcome.next.inj h ▸ serveThen_moves (releaseDirect_moves p) fun _ => ?_
    split
    · exact .refl
    · exact select_moves
  | sessionEndPlaneStore p => exact Host.Outcome.next.inj h ▸ takeAnnouncement_moves fun _ => sessionEndSlots_moves p
  | sessionEndLoader p => exact Host.Outcome.next.inj h ▸ takeAnnouncement_moves fun _ => sessionEndLoader_moves p
  | sessionEndSequences p =>
    exact Host.Outcome.next.inj h ▸ takeAnnouncement_moves fun _ => Moves.foldl (fun _ n => endSessionOfSeq_moves p n) _ _
  | sessionEndQueue p => exact Host.Outcome.next.inj h ▸ takeAnnouncement_moves fun _ => removeEntriesOf_moves p
  | sessionEndPlayer p => exact Host.Outcome.next.inj h ▸ takeAnnouncement_moves fun _ => sessionEndPlayer_moves p
  | flashBurstDone data => exact execFlashBurstDone_moves data h
  | flashAnswerTimeout => exact execFlashAnswerTimeout_moves h
  | selectRequest => exact execSelectRequest_moves h
  | loadedTaken => exact execLoadedTaken_moves h
  | consumptionTaken => exact execConsumptionTaken_moves h
  | swappedTaken => exact execSwappedTaken_moves h
  | syncPulseEnd => exact execSyncPulseEnd_moves h
  | holdTimerExpiry =>
    exact Host.Outcome.next.inj h ▸ expire_moves fun d => holdEnds_moves (by rwa [numberGiven_elapse])
  | gapTimerExpiry =>
    exact Host.Outcome.next.inj h ▸ expire_moves fun d => gapEnds_moves (by rwa [numberGiven_elapse])
  | faultTaken src => exact execFaultTaken_moves src h
  | linkReportTaken => exact execLinkReportTaken_moves h
  | recognisedLevelChange input level => exact execRecognisedLevelChange_moves input level h
  | triggerTimeoutExpiry => exact execTriggerTimeoutExpiry_moves h
  | drvRdyFall => exact execDrvRdyFall_moves h
  | drvRdyRise => exact execDrvRdyRise_moves h
  | answerTimerExpiry => exact execAnswerTimerExpiry_moves h
  | loadTransmissionEnd damage => exact execLoadTransmissionEnd_moves damage h
  | loadedAnswer => exact execLoadedAnswer_moves h
  | rejectedAnswer reason => exact execRejectedAnswer_moves reason h
  | swappedAnswer => exact execSwappedAnswer_moves h
  | blankedAnswer => exact execBlankedAnswer_moves h
  | lightLimitExpiry c => exact execLightLimitExpiry_moves c h
  | offerWindowExpiry =>
    exact Host.Outcome.next.inj h ▸ expire_moves fun _ => (endDirectWith_moves _ _).trans select_moves
  | showTimerExpiry => exact Host.Outcome.next.inj h ▸ expire_moves fun _ => endShow_moves
  | directionByteEnd p first => exact execDirectionByteEnd_moves p first h
  | startToken => exact startToken_moves h

theorem pending_moves (l : List Instr) : Moves a s { s with pending := l } :=
  .single (.handed s s.resetLow s.announcements s.selects s.fromLink s.fromTrig s.fromLights l)

theorem tick_moves : Moves a s (tick s) := by
  unfold tick
  split
  · exact .refl
  · exact elapse_moves 1

/-- What every step may do: hold level and designation may change; a context of an earlier holding may be written back only
where the present holding number has not been given. -/
def stepLeave (s : State) : Leave := { stale := ¬ s.player.numberGiven, holdLevel := True, designate := True }

theorem exec_moves_or_chipReset {i : Instr} {t : State} (h : exec i s = .next t) :
    Moves (stepLeave s) s t ∨ ∃ straps, t = chipReset straps s := by
  by_cases hchip : ∃ straps, i = .chipReset straps
  · obtain ⟨straps, rfl⟩ := hchip
    exact .inr ⟨straps, (Host.Outcome.next.inj h).symm⟩
  · exact .inl (exec_moves h (fun straps hi => hchip ⟨straps, hi⟩) (Classical.em _).symm (fun _ _ => trivial)
      fun _ _ => trivial)

/-- A step is a run of moves, or a chip reset of the state with fewer commands waiting. -/
theorem step_moves_or_chipReset {t : State} (h : step s = .next t) :
    Moves (stepLeave s) s t ∨ ∃ straps l, t = chipReset straps { s with pending := l } := by
  unfold step at h
  split at h
  next i rest _ =>
    obtain hmoves | ⟨straps, hreset⟩ := exec_moves_or_chipReset h
    · exact .inl ((pending_moves rest).trans hmoves)
    · exact .inr ⟨straps, rest, hreset⟩
  next =>
    unfold idle at h
    split at h
    · obtain hmoves | ⟨straps, hreset⟩ := exec_moves_or_chipReset h
      · exact .inl hmoves
      · exact .inr ⟨straps, s.pending, hreset⟩
    · exact .inl (Host.Outcome.next.inj h ▸ tick_moves)

/-- What every move keeps, and a chip reset leaves, every step keeps. -/
theorem step_keeps {I : State → Prop} {t : State} (hmove : ∀ u v, Move (stepLeave s) u v → I u → I v)
    (hreset : ∀ straps u, I (chipReset straps u)) (h : step s = .next t) (hs : I s) : I t := by
  obtain hmoves | ⟨straps, l, rfl⟩ := step_moves_or_chipReset h
  · clear h
    induction hmoves with
    | refl => exact hs
    | tail _ hm ih => exact hmove _ _ hm ih
  · exact hreset straps _

end
end Sys2Proof.Machine

/-! PROOF. The accounts of one block each: the plane memory, the ports, the plane link, the trigger unit and the loader. -/

namespace Sys2Proof.Machine

set_option Elab.async false

section
variable {a : Leave} {s t : State}

/-! ## What a move leaves alone -/

/-- The part but for its slots, its sequences and its pool. -/
def State.unstored (t s : State) : State := { t with slots := s.slots, seqs := s.seqs, poolFree := s.poolFree }

theorem useReleases_frame (l : List SeqId) (s : State) : (useReleases l s).unstored s = s := by
  induction l generalizing s with
  | nil => rfl
  | cons n l ih =>
    have h := congrArg (fun t : State => t.unstored s) (ih (useRelease n s))
    exact h.trans (useRelease_frame n s)

theorem releaseDesignated_eq (d : Option SeqId) (s : State) :
    releaseDesignated d s = useReleases d.toList s := by
  cases d <;> rfl

/-- A use raise, if one is made. -/
theorem raisedForDesignation_frame {d : Option SeqId} (h : raisedForDesignation d s t) : t.unstored s = s := by
  unfold raisedForDesignation at h
  split at h
  · obtain ⟨-, rfl⟩ := useRaise_eq h
    rfl
  · rw [h]
    rfl

theorem raisedFor_frame {e : Entry} (h : raisedFor e s t) : t.unstored s = s := by
  unfold raisedFor at h
  split at h
  · obtain ⟨-, rfl⟩ := useRaise_eq h
    rfl
  · rw [h]
    rfl

theorem useRaise_getD_frame (n : SeqId) : ((useRaise n s).getD s).unstored s = s := by
  unfold useRaise
  split <;> rfl

/-- What a block that keeps its account to itself shows of a state. -/
structure Blocks where
  ports : Vector Port 4
  link : Link
  trig : Trigger
  lib : Loader
  planeMem : List Host.Cell

def State.blocks (s : State) : Blocks :=
  { ports := s.ports, link := s.link, trig := s.trig, lib := s.lib, planeMem := s.planeMem }

theorem blocks_of_unstored (h : t.unstored s = s) : t.blocks = s.blocks := (congrArg State.blocks h :)

theorem pinRelease_blocks (l : List SlotId) (s : State) : (pinRelease l s).blocks = s.blocks :=
  (congrArg State.blocks (pinRelease_frame l s) :)

theorem emptySequence_blocks (n : SeqId) (s : State) : (emptySequence n s).blocks = s.blocks :=
  (congrArg State.blocks (emptySequence_frame n s) :)

theorem pinRaise_blocks {l : List SlotId} (h : pinRaise l s = .ok t) : t.blocks = s.blocks :=
  (congrArg State.blocks (pinRaise_frame h) :)

theorem useReleases_blocks (l : List SeqId) (s : State) : (useReleases l s).blocks = s.blocks :=
  blocks_of_unstored (useReleases_frame l s)

/-- A move of one block changes that block as its account allows; every other move changes none of them. -/
theorem Move.blocks_cases (h : Move a s t) :
    (∃ v, (∀ p : PortId, (s.port p).accounted → v[p].accounted) ∧ t = { s with ports := v })
    ∨ (∃ l, (LinkConsistent s → LinkConsistent { s with link := l }) ∧ t = { s with link := l })
    ∨ (∃ x, (LatchesConsistent s → LatchesConsistent { s with trig := x }) ∧ t = { s with trig := x })
    ∨ (∃ x, (LoaderConsistent s → LoaderConsistent { s with lib := x }) ∧ t = { s with lib := x })
    ∨ (∃ address bytes, t = { s with planeMem := memWrite address bytes s.planeMem })
    ∨ t.blocks = s.blocks := by
  cases h with
  | ports v h => exact .inl ⟨v, h, rfl⟩
  | link l h => exact .inr (.inl ⟨l, h, rfl⟩)
  | trig x h => exact .inr (.inr (.inl ⟨x, h, rfl⟩))
  | loader x h => exact .inr (.inr (.inr (.inl ⟨x, h, rfl⟩)))
  | memory address bytes => exact .inr (.inr (.inr (.inr (.inl ⟨address, bytes, rfl⟩))))
  | designate u d h hu =>
    refine .inr (.inr (.inr (.inr (.inr ?_))))
    show (releaseDesignated s.player.designated u).blocks = _
    rw [releaseDesignated_eq, useReleases_blocks, blocks_of_unstored (raisedForDesignation_frame hu)]
  | append u n batch hu => exact .inr (.inr (.inr (.inr (.inr (pinRaise_blocks hu :)))))
  | shorten n k => exact .inr (.inr (.inr (.inr (.inr (pinRelease_blocks _ _ :)))))
  | emptied n => exact .inr (.inr (.inr (.inr (.inr (emptySequence_blocks n s)))))
  | join u e hu => exact .inr (.inr (.inr (.inr (.inr (blocks_of_unstored (raisedFor_frame hu) :)))))
  | release l queue out stack => exact .inr (.inr (.inr (.inr (.inr (useReleases_blocks l _ :)))))
  | fallback n c => exact .inr (.inr (.inr (.inr (.inr (blocks_of_unstored (useRaise_getD_frame n) :)))))
  | joinShow u k d y hout hu => exact .inr (.inr (.inr (.inr (.inr (pinRaise_blocks hu :)))))
  | endShow k d x rest => exact .inr (.inr (.inr (.inr (.inr (pinRelease_blocks _ s :)))))
  | endDirect => exact .inr (.inr (.inr (.inr (.inr (pinRelease_blocks _ s :)))))
  | _ => exact .inr (.inr (.inr (.inr (.inr rfl))))

/-! ## Five accounts of one block each -/

theorem Move.keeps_memory (h : Move a s t) (hs : MemoryCanonical s) : MemoryCanonical t := by
  obtain ⟨v, -, rfl⟩ | ⟨l, -, rfl⟩ | ⟨x, -, rfl⟩ | ⟨x, -, rfl⟩ | ⟨address, bytes, rfl⟩ | heq := h.blocks_cases
  · exact hs
  · exact hs
  · exact hs
  · exact hs
  · exact memWrite_wf address bytes hs
  · have hmem : t.planeMem = s.planeMem := congrArg Blocks.planeMem heq
    rwa [MemoryCanonical, hmem]

theorem Move.keeps_ports (h : Move a s t) (hs : PortsAccounted s) : PortsAccounted t := by
  obtain ⟨v, hv, rfl⟩ | ⟨l, -, rfl⟩ | ⟨x, -, rfl⟩ | ⟨x, -, rfl⟩ | ⟨address, bytes, rfl⟩ | heq := h.blocks_cases
  · exact fun p => hv p (hs p)
  · exact hs
  · exact hs
  · exact hs
  · exact hs
  · have hports : t.ports = s.ports := congrArg Blocks.ports heq
    show ∀ p : PortId, t.ports[p].accounted
    rw [hports]
    exact hs

theorem Move.keeps_link (h : Move a s t) (hs : LinkConsistent s) : LinkConsistent t := by
  obtain ⟨v, -, rfl⟩ | ⟨l, hl, rfl⟩ | ⟨x, -, rfl⟩ | ⟨x, -, rfl⟩ | ⟨address, bytes, rfl⟩ | heq := h.blocks_cases
  · exact hs
  · exact hl hs
  · exact hs
  · exact hs
  · exact hs
  · have hlink : t.link = s.link := congrArg Blocks.link heq
    rwa [LinkConsistent, hlink]

theorem Move.keeps_latches (h : Move a s t) (hs : LatchesConsistent s) : LatchesConsistent t := by
  obtain ⟨v, -, rfl⟩ | ⟨l, -, rfl⟩ | ⟨x, hx, rfl⟩ | ⟨x, -, rfl⟩ | ⟨address, bytes, rfl⟩ | heq := h.blocks_cases
  · exact hs
  · exact hs
  · exact hx hs
  · exact hs
  · exact hs
  · have htrig : t.trig = s.trig := congrArg Blocks.trig heq
    rwa [LatchesConsistent, htrig]

theorem Move.keeps_loader (h : Move a s t) (hs : LoaderConsistent s) : LoaderConsistent t := by
  obtain ⟨v, -, rfl⟩ | ⟨l, -, rfl⟩ | ⟨x, -, rfl⟩ | ⟨x, hx, rfl⟩ | ⟨address, bytes, rfl⟩ | heq := h.blocks_cases
  · exact hs
  · exact hs
  · exact hs
  · exact hx hs
  · exact hs
  · have hlib : t.lib = s.lib := congrArg Blocks.lib heq
    rwa [LoaderConsistent, hlib]

/-! ## Chip reset -/

theorem reset_memoryCanonical : MemoryCanonical State.reset := reset_planeMem_wf

theorem reset_linkConsistent : LinkConsistent State.reset := by
  simp [LinkConsistent, State.reset, Link.afterReset, LinkState.awaiting, Link.identityIn]

theorem reset_latchesConsistent : LatchesConsistent State.reset := by
  simp [LatchesConsistent, State.reset, Trigger.afterReset]

theorem reset_loaderConsistent : LoaderConsistent State.reset := by
  simp [LoaderConsistent, State.reset, Loader.afterReset]

/-- A port after chip reset, whatever transaction it ignores. -/
theorem afterReset_accounted (cls : PortClass) (low : Bool) (txn : Option Txn) :
    Port.accounted { Port.afterReset cls low with txn := txn.map Txn.ended } :=
  Port.accounted_iff.mpr ⟨rfl, Nat.zero_le _, Nat.zero_le _, nofun, nofun, by cases txn <;> trivial⟩

theorem chipReset_portsAccounted (straps : BitVec 4) (s : State) : PortsAccounted (chipReset straps s) := fun p => by
  have hport : (chipReset straps s).port p =
      { Port.afterReset (classOf straps p) (s.port p).prstLow with txn := (s.port p).txn.map Txn.ended } :=
    State.port_eachPort s
      (fun p q => { Port.afterReset (classOf straps p) q.prstLow with txn := q.txn.map Txn.ended }) p
  rw [hport]
  exact afterReset_accounted _ _ _

end

/-- Settles O53: a step is a run of moves or a chip reset, and only a write of bytes touches the memory. -/
theorem memoryStaysCanonical : Obligations.MemoryStaysCanonical := fun _ _ hs h =>
  step_keeps (fun _ _ hm => hm.keeps_memory)
    (fun _ _ => reset_memoryCanonical) h hs

/-- Settles O57: a step is a run of moves or a chip reset, and each move of the ports keeps their accounts. -/
theorem portsStayAccounted : Obligations.PortsStayAccounted := fun _ _ hs h =>
  step_keeps (fun _ _ hm => hm.keeps_ports) chipReset_portsAccounted h hs

/-- Settles O59: a step is a run of moves or a chip reset; a move of the link, or of the trigger unit, keeps it in order. -/
theorem linkAndLatchesStayConsistent : Obligations.LinkAndLatchesStayConsistent := fun _ _ h =>
  ⟨step_keeps (fun _ _ hm => hm.keeps_link)
      (fun _ _ => reset_linkConsistent) h,
    step_keeps (fun _ _ hm => hm.keeps_latches)
      (fun _ _ => reset_latchesConsistent) h⟩

/-- Settles O60: a step is a run of moves or a chip reset, and each move of the loader keeps it in order. -/
theorem loaderStaysConsistent : Obligations.LoaderStaysConsistent := fun _ _ hs h =>
  step_keeps (fun _ _ hm => hm.keeps_loader)
    (fun _ _ => reset_loaderConsistent) h hs

end Sys2Proof.Machine

/-! PROOF. The step pool and the pins: each move that takes steps into a sequence or out of one moves the records and the pins
with them. -/

namespace Sys2Proof.Machine

set_option Elab.async false

/-! ## Sums over the sequence table -/

/-- The sum of a measure of each sequence. -/
def overSeqs (f : Sequence → Nat) (s : State) : Nat := ((List.finRange 32).map fun q => f (s.seq q)).sum

theorem overSeqs_congr {f : Sequence → Nat} {s t : State} (h : ∀ q, f (t.seq q) = f (s.seq q)) :
    overSeqs f t = overSeqs f s := by
  simp only [overSeqs, h]

theorem overSeqs_setSeq (f : Sequence → Nat) (s : State) (n : SeqId) (x : Sequence) :
    overSeqs f (s.setSeq n x) + f (s.seq n) = overSeqs f s + f x := by
  have hsum (g : SeqId → Nat) : ((List.finRange 32).map g).sum = ∑ q, g q := (Fin.sum_univ_def g).symm
  simp only [overSeqs, hsum, State.seq_setSeq]
  rw [← Finset.add_sum_erase _ _ (Finset.mem_univ n),
    ← Finset.add_sum_erase _ (fun q => f (s.seq q)) (Finset.mem_univ n)]
  have hrest : ∑ q ∈ Finset.univ.erase n, f (if q = n then x else s.seq q) = ∑ q ∈ Finset.univ.erase n, f (s.seq q) :=
    Finset.sum_congr rfl fun q hq => by rw [if_neg (Finset.ne_of_mem_erase hq)]
  rw [hrest, if_pos rfl]
  omega

/-! ## The pool (R39, R41) -/

section
variable {a : Leave} {s t : State}

/-- The pool of a state whose sequences are those of another, balanced. -/
theorem poolBalanced_of (hpool : t.poolFree = s.poolFree) (hseqs : t.seqs = s.seqs) (h : PoolBalanced s) : PoolBalanced t := by
  have hseq : t.seq = s.seq := funext fun q => by rw [State.seq, hseqs]; rfl
  rw [PoolBalanced, hpool, hseq]
  exact h

/-- One sequence changes, and the records it gains leave the pool, those it loses return. -/
theorem poolBalanced_setSeq {n : SeqId} {x : Sequence} {free : Nat} (hok : SeqOk (s.seq n) → SeqOk x)
    (hfree : PoolBalanced s → free + x.steps.length = s.poolFree + (s.seq n).steps.length) (h : PoolBalanced s) :
    PoolBalanced { s.setSeq n x with poolFree := free } := by
  obtain ⟨hsum, hseqs⟩ := h
  refine ⟨?_, fun q => ?_⟩
  · have hset := overSeqs_setSeq (fun y => y.steps.length) s n x
    have hfree' := hfree ⟨hsum, hseqs⟩
    replace hsum : s.poolFree + overSeqs (fun y => y.steps.length) s = Config.poolSize := hsum
    show free + overSeqs (fun y => y.steps.length) (s.setSeq n x) = Config.poolSize
    omega
  · show SeqOk ((s.setSeq n x).seq q)
    rw [State.seq_setSeq]
    split
    · exact hok (hseqs n)
    · exact hseqs q

theorem emptySequence_pool (n : SeqId) (h : PoolBalanced s) : PoolBalanced (emptySequence n s) :=
  poolBalanced_of (s := { s.setSeq n Sequence.empty with poolFree := s.poolFree + (s.seq n).steps.length })
    (pinRelease_poolFree _ _) (pinRelease_seqs _ _) (poolBalanced_setSeq (fun _ => rfl) (fun _ => rfl) h)

/-- A change of the use count alone. -/
theorem seqOk_uses {x : Sequence} {k : Nat} (h : SeqOk x) (hk : x.state ≠ .sealed → k = 0) : SeqOk { x with uses := k } := by
  cases hstate : x.state with
  | empty =>
    simp only [SeqOk, hstate] at h ⊢
    rw [h, hk (by simp [hstate])]
    rfl
  | opened =>
    simp only [SeqOk, hstate] at h ⊢
    exact ⟨h.1, hk (by simp [hstate]), h.2.2⟩
  | sealed =>
    simp only [SeqOk, hstate] at h ⊢
    exact h

theorem seqOk_no_uses {x : Sequence} (h : SeqOk x) (hstate : x.state ≠ .sealed) : x.uses = 0 := by
  cases hs : x.state with
  | empty => simp only [SeqOk, hs] at h; rw [h]; rfl
  | opened => simp only [SeqOk, hs] at h; exact h.2.1
  | sealed => exact absurd hs hstate

theorem useRelease_pool (n : SeqId) (h : PoolBalanced s) : PoolBalanced (useRelease n s) := by
  have hlowered : PoolBalanced (s.setSeq n { s.seq n with uses := (s.seq n).uses - 1 }) :=
    poolBalanced_setSeq (free := s.poolFree)
      (fun hok => seqOk_uses hok fun hstate => by rw [seqOk_no_uses hok hstate]) (fun _ => rfl) h
  unfold useRelease
  dsimp only
  split
  · exact emptySequence_pool n hlowered
  · exact hlowered

theorem useReleases_pool (l : List SeqId) (h : PoolBalanced s) : PoolBalanced (useReleases l s) := by
  induction l generalizing s with
  | nil => exact h
  | cons n l ih => exact ih (useRelease_pool n h)

theorem useRaise_pool {n : SeqId} (hu : useRaise n s = some t) (h : PoolBalanced s) : PoolBalanced t := by
  obtain ⟨hstate, rfl⟩ := useRaise_eq hu
  exact poolBalanced_setSeq (free := s.poolFree) (fun hok => seqOk_uses hok fun hne => absurd hstate hne) (fun _ => rfl) h

theorem Move.keeps_pool (h : Move a s t) (hs : PoolBalanced s) : PoolBalanced t := by
  cases h with
  | designate u d hd hu =>
    have hraised : PoolBalanced u := by
      unfold raisedForDesignation at hu
      split at hu
      · exact useRaise_pool hu hs
      · exact hu ▸ hs
    rw [releaseDesignated_eq]
    exact useReleases_pool _ hraised
  | seq n x hsteps huses hstate hsealed hok =>
    exact poolBalanced_setSeq (free := s.poolFree) hok (fun _ => by rw [hsteps]) hs
  | claim n p count hempty =>
    refine poolBalanced_setSeq (free := s.poolFree) (fun _ => ⟨rfl, rfl, rfl, Nat.zero_le _⟩) (fun h => ?_) hs
    have hok := h.2 n
    simp only [SeqOk, hempty] at hok
    rw [hok]
    rfl
  | append u n batch hu hstate hlen hpool =>
    have hframe := pinRaise_frame hu
    refine poolBalanced_of (s := { s.setSeq n { s.seq n with steps := (s.seq n).steps ++ batch } with
      poolFree := s.poolFree - batch.length }) rfl
      (congrArg (fun v : Vector Sequence 32 => v.set n.val _ n.isLt) (congrArg State.seqs hframe :))
      (poolBalanced_setSeq (fun hok => ?_) (fun _ => ?_) hs)
    · simp only [SeqOk, hstate] at hok ⊢
      exact ⟨hok.1, hok.2.1, hok.2.2.1, by simpa using hlen⟩
    · simp only [List.length_append]
      omega
  | shorten n k hstate =>
    refine poolBalanced_of (s := { s.setSeq n { s.seq n with steps := (s.seq n).steps.take k } with
      poolFree := s.poolFree + ((s.seq n).steps.drop k).length })
      (pinRelease_poolFree _ _) (pinRelease_seqs _ _) (poolBalanced_setSeq (fun hok => ?_) (fun _ => ?_) hs)
    · simp only [SeqOk, hstate] at hok ⊢
      exact ⟨hok.1, hok.2.1, hok.2.2.1, (List.length_take_le' _ _).trans hok.2.2.2⟩
    · simp only [List.length_drop, List.length_take]
      omega
  | emptied n hstate => exact emptySequence_pool n hs
  | join u e hu =>
    have hraised : PoolBalanced u := by
      unfold raisedFor at hu
      split at hu
      · exact useRaise_pool hu hs
      · exact hu ▸ hs
    exact hraised
  | release l queue out stack =>
    exact useReleases_pool (s := { s with queue := queue, player := { s.player with out := out, stack := stack } }) l hs
  | fallback n c =>
    have hraised : PoolBalanced ((useRaise n s).getD s) := by
      cases hu : useRaise n s with
      | none => exact hs
      | some u => exact useRaise_pool hu hs
    exact hraised
  | joinShow u k d y hout hu =>
    have hframe := pinRaise_frame hu
    exact poolBalanced_of (s := s) (congrArg State.poolFree hframe :) (congrArg State.seqs hframe :) hs
  | endShow k d x rest => exact poolBalanced_of (s := s) (pinRelease_poolFree _ s) (pinRelease_seqs _ s) hs
  | endDirect => exact poolBalanced_of (s := s) (pinRelease_poolFree _ s) (pinRelease_seqs _ s) hs
  | _ => exact hs

theorem seq_of_empty (h : s.seqs = State.reset.seqs) (q : SeqId) : s.seq q = Sequence.empty := by
  rw [State.seq, h]
  simp [State.reset]

theorem reset_poolBalanced : PoolBalanced State.reset := by
  have hseq := seq_of_empty (s := State.reset) rfl
  have hsteps : overSeqs (fun x => x.steps.length) State.reset = 0 := by
    simp only [overSeqs, hseq]
    simp [Sequence.empty]
  exact ⟨congrArg (Config.poolSize + ·) hsteps, fun q => by rw [hseq q]; exact rfl⟩

/-! ## Pins (R2, R11) -/

/-- The pins a sequence's steps raise on a slot. -/
def pinsOf (n : SlotId) (x : Sequence) : Nat := x.steps.countP fun y => y.slot == n

/-- The shows that name a slot. -/
def showsOf (n : SlotId) (o : Output) : Nat := o.shows.countP fun y => y.slot == n

theorem slotReferences_eq (s : State) (n : SlotId) :
    slotReferences s n = overSeqs (pinsOf n) s + showsOf n s.player.out := rfl

theorem countP_slot (l : List Step) (n : SlotId) : l.countP (fun y => y.slot == n) = (l.map Step.slot).count n := by
  simp [List.count, List.countP_map, Function.comp_def]

theorem countP_showSlot (l : List Show) (n : SlotId) : l.countP (fun y => y.slot == n) = (l.map Show.slot).count n := by
  simp [List.count, List.countP_map, Function.comp_def]

/-- The pins of each slot are some number, and each slot agrees with its state. -/
def Pinned (s : State) (refs : SlotId → Nat) : Prop := ∀ n, SlotOk (s.slot n) ∧ (s.slot n).pins = refs n

theorem pinned_raise {l : List SlotId} {refs : SlotId → Nat} (h : pinRaise l s = .ok t) (hs : Pinned s refs) :
    Pinned t fun n => refs n + l.count n := by
  unfold pinRaise at h
  split at h
  · cases h
  next hready =>
    cases h
    intro n
    rw [(foldl_pinOne l s).1 n]
    refine ⟨?_, by rw [(hs n).2]⟩
    by_cases hn : n ∈ l
    · have hr := List.findIdx?_eq_none_iff.mp hready n hn
      have hok := (hs n).1
      cases hc : (s.slot n).content <;> simp_all [SlotOk, Slot.isReady, SlotContent.state]
    · rw [List.count_eq_zero.mpr hn]
      exact (hs n).1

/-- A slot that loses pins it has still agrees with its state. -/
theorem slotOk_unpin {x : Slot} {k : Nat} (h : SlotOk x) (hk : k ≤ x.pins) : SlotOk { x with pins := x.pins - k } := by
  cases hc : x.content with
  | free =>
    simp only [SlotOk, hc] at h ⊢
    rw [h]
    simp [Slot.free]
  | _ => simp_all [SlotOk]

theorem pinned_release {l : List SlotId} {refs : SlotId → Nat} (hs : Pinned s refs) (hl : ∀ n, l.count n ≤ refs n) :
    Pinned (pinRelease l s) fun n => refs n - l.count n := by
  intro n
  obtain ⟨hok, hpins⟩ := hs n
  rw [pinRelease, (foldl_freeOrphan l (l.foldl unpinOne s)).1 n, (foldl_unpinOne l s).1 n]
  split
  next hfree => exact ⟨rfl, hfree.2.1.symm.trans (congrArg (· - l.count n) hpins)⟩
  next => exact ⟨slotOk_unpin hok (hpins ▸ hl n), by rw [hpins]⟩

/-- The counts of PinsCounted, apart from the state they are counted in. -/
theorem pinsCounted_iff : PinsCounted s ↔
    Pinned s (slotReferences s) ∧ ∀ q, (s.seq q).state = .empty → (s.seq q).steps = [] := Iff.rfl

theorem pinsCounted_of {refs : SlotId → Nat} (hpinned : Pinned t refs) (hrefs : ∀ n, slotReferences t n = refs n)
    (hempty : ∀ q, (t.seq q).state = .empty → (t.seq q).steps = []) : PinsCounted t :=
  ⟨fun n => ⟨(hpinned n).1, (hpinned n).2.trans (hrefs n).symm⟩, hempty⟩

/-- One sequence changes. -/
theorem emptySteps_setSeq {n : SeqId} {x : Sequence} (hx : x.state = .empty → x.steps = [])
    (h : ∀ q, (s.seq q).state = .empty → (s.seq q).steps = []) :
    ∀ q, ((s.setSeq n x).seq q).state = .empty → ((s.setSeq n x).seq q).steps = [] := fun q => by
  rw [State.seq_setSeq]
  split
  · exact hx
  · exact h q

theorem pinsCounted_setSeq {n : SeqId} {x : Sequence} (hsteps : x.steps = (s.seq n).steps)
    (hx : x.state = .empty → x.steps = []) (h : PinsCounted s) : PinsCounted (s.setSeq n x) := by
  refine pinsCounted_of (refs := slotReferences s) h.1 (fun m => ?_) (emptySteps_setSeq hx h.2)
  have hset := overSeqs_setSeq (pinsOf m) s n x
  have hsame : pinsOf m x = pinsOf m (s.seq n) := by rw [pinsOf, hsteps]; rfl
  rw [slotReferences_eq, slotReferences_eq]
  show _ + showsOf m s.player.out = _
  omega

/-- Steps leave a sequence, and their pins are released (R41). -/
theorem returnSteps_pins {n : SeqId} {x : Sequence} {gone : List Step} (hsteps : (s.seq n).steps = x.steps ++ gone)
    (hx : x.state = .empty → x.steps = []) (h : PinsCounted s) : PinsCounted (returnSteps gone (s.setSeq n x)) := by
  have hset (m : SlotId) := overSeqs_setSeq (pinsOf m) s n x
  have hsplit (m : SlotId) : pinsOf m (s.seq n) = pinsOf m x + (gone.map Step.slot).count m := by
    rw [pinsOf, hsteps, List.countP_append, ← countP_slot]
    rfl
  have hpinned := pinned_release (s := { s.setSeq n x with poolFree := s.poolFree + gone.length }) (l := gone.map Step.slot)
    (refs := slotReferences s) h.1 fun m => by
      rw [slotReferences_eq]
      have := hset m
      have := hsplit m
      omega
  have hseqs : ∀ q, (returnSteps gone (s.setSeq n x)).seq q = (s.setSeq n x).seq q := fun q =>
    congrArg (fun v : Vector Sequence 32 => v[q]) (pinRelease_seqs _ _)
  have hplayer : (returnSteps gone (s.setSeq n x)).player = s.player := pinRelease_player _ _
  refine pinsCounted_of hpinned (fun m => ?_) fun q => by rw [hseqs]; exact emptySteps_setSeq hx h.2 q
  rw [slotReferences_eq, overSeqs_congr (s := s.setSeq n x) fun q => by rw [hseqs], hplayer, slotReferences_eq]
  have := hset m
  have := hsplit m
  omega

theorem emptySequence_pins (n : SeqId) (h : PinsCounted s) : PinsCounted (emptySequence n s) :=
  returnSteps_pins (x := Sequence.empty) rfl (fun _ => rfl) h

theorem useRelease_pins (n : SeqId) (h : PinsCounted s) : PinsCounted (useRelease n s) := by
  have hlowered : PinsCounted (s.setSeq n { s.seq n with uses := (s.seq n).uses - 1 }) := pinsCounted_setSeq rfl (h.2 n) h
  unfold useRelease
  dsimp only
  split
  · exact emptySequence_pins n hlowered
  · exact hlowered

theorem useReleases_pins (l : List SeqId) (h : PinsCounted s) : PinsCounted (useReleases l s) := by
  induction l generalizing s with
  | nil => exact h
  | cons n l ih => exact ih (useRelease_pins n h)

theorem useRaise_pins {n : SeqId} (hu : useRaise n s = some t) (h : PinsCounted s) : PinsCounted t := by
  obtain ⟨-, rfl⟩ := useRaise_eq hu
  exact pinsCounted_setSeq rfl (h.2 n) h

/-- The output changes with the shows that name slots. -/
theorem pinsCounted_setOut (hslots : t.slots = s.slots) (hseqs : t.seqs = s.seqs)
    (hshows : t.player.out.shows.map Show.slot = s.player.out.shows.map Show.slot) (h : PinsCounted s) : PinsCounted t := by
  have hseq : ∀ q, t.seq q = s.seq q := fun q => by rw [State.seq, hseqs]; rfl
  have hslot : ∀ n, t.slot n = s.slot n := fun n => by rw [State.slot, hslots]; rfl
  refine ⟨fun n => ?_, fun q => by rw [hseq]; exact h.2 q⟩
  have hrefs : slotReferences t n = slotReferences s n := by
    rw [slotReferences_eq, slotReferences_eq, overSeqs_congr (s := s) fun q => by rw [hseq q], showsOf, showsOf,
      countP_showSlot, countP_showSlot, hshows]
  rw [hslot, hrefs]
  exact h.1 n

end
end Sys2Proof.Machine

/-! PROOF. The pins and the uses under each move, and what every step keeps of the pool, the pins and the uses. -/

namespace Sys2Proof.Machine

set_option Elab.async false

section
variable {a : Leave} {s t : State}

/-! ## The shows of the output -/

theorem shows_after (o : Output) (d : Nat) : (o.after d).shows = o.shows := by
  cases o <;> rfl

theorem shows_withContext (o : Output) (c : Context) : (o.withContext c).shows = o.shows := by
  cases o <;> rfl

/-- The pins of a state whose pins have been raised for one more show. -/
theorem pinsCounted_joinShow {k : Nat} {d : Direct} {y : Show} (hout : s.player.out = .direct k d)
    (ht : pinRaise [y.slot] s = .ok t) (h : PinsCounted s) :
    PinsCounted (t.setOut (.direct k { d with shows := d.shows ++ [y] })) := by
  have hseqs : t.seqs = s.seqs := (congrArg State.seqs (pinRaise_frame ht) :)
  have hseq : ∀ q, t.seq q = s.seq q := fun q => by rw [State.seq, hseqs]; rfl
  refine pinsCounted_of (t := t.setOut _) (pinned_raise ht h.1 :) (fun n => ?_) fun q => by
    show (t.seq q).state = .empty → (t.seq q).steps = []
    rw [hseq]
    exact h.2 q
  rw [slotReferences_eq s, hout]
  show overSeqs (pinsOf n) t + (d.shows ++ [y]).countP _ = _ + d.shows.countP _ + _
  rw [overSeqs_congr (s := s) fun q => congrArg (pinsOf n) (hseq q), List.countP_append, countP_showSlot [y]]
  exact (Nat.add_assoc _ _ _).symm

/-- Shows leave, with their pins. -/
theorem pinsCounted_endShows {out : Output} {gone : List Show} (hshows : s.player.out.shows = gone ++ out.shows)
    (h : PinsCounted s) : PinsCounted ((pinRelease (gone.map Show.slot) s).setOut out) := by
  have hseqs : (pinRelease (gone.map Show.slot) s).seqs = s.seqs := pinRelease_seqs _ s
  have hseq : ∀ q, (pinRelease (gone.map Show.slot) s).seq q = s.seq q := fun q => by rw [State.seq, hseqs]; rfl
  have hsplit : ∀ n, slotReferences s n = overSeqs (pinsOf n) s + showsOf n out + (gone.map Show.slot).count n := fun n => by
    rw [slotReferences_eq, showsOf, hshows, List.countP_append, countP_showSlot gone, showsOf]
    omega
  refine pinsCounted_of (pinned_release h.1 fun n => by rw [hsplit]; omega) (fun n => ?_) fun q => by
    show ((pinRelease _ s).seq q).state = .empty → ((pinRelease _ s).seq q).steps = []
    rw [hseq]
    exact h.2 q
  rw [hsplit, slotReferences_eq, overSeqs_congr (s := s) (t := (pinRelease _ s).setOut out)
    fun q => congrArg (pinsOf n) (hseq q), Nat.add_sub_cancel]
  rfl

theorem Move.keeps_pins (h : Move a s t) (hs : PinsCounted s) : PinsCounted t := by
  cases h with
  | slots v h =>
    refine pinsCounted_of (refs := slotReferences s) (fun n => ?_) (fun _ => rfl) hs.2
    obtain ⟨hok, hpins⟩ := h n (hs.1 n).1
    exact ⟨hok, hpins.trans (hs.1 n).2⟩
  | outTimer d => exact pinsCounted_setOut (s := s) rfl rfl (by rw [State.setOut, shows_after]) hs
  | designate u d hd hu =>
    have hraised : PinsCounted u := by
      unfold raisedForDesignation at hu
      split at hu
      · exact useRaise_pins hu hs
      · exact hu ▸ hs
    rw [releaseDesignated_eq]
    exact useReleases_pins _ hraised
  | seq n x hsteps huses hstate hsealed hok => exact pinsCounted_setSeq hsteps (fun h => absurd h hstate) hs
  | claim n p count hempty => exact pinsCounted_setSeq (hs.2 n hempty).symm (fun _ => rfl) hs
  | append u n batch hu hstate hlen hpool =>
    have hseqs : u.seqs = s.seqs := (congrArg State.seqs (pinRaise_frame hu) :)
    have hplayer : u.player = s.player := (congrArg State.player (pinRaise_frame hu) :)
    have hseq : ∀ q, (u.setSeq n { s.seq n with steps := (s.seq n).steps ++ batch }).seq q =
        (s.setSeq n { s.seq n with steps := (s.seq n).steps ++ batch }).seq q := fun q => by
      rw [State.seq, State.setSeq, hseqs]
      rfl
    refine pinsCounted_of (t := { u.setSeq n _ with poolFree := _ }) (pinned_raise hu hs.1 :) (fun m => ?_) fun q => ?_
    · have hset := overSeqs_setSeq (pinsOf m) s n { s.seq n with steps := (s.seq n).steps ++ batch }
      have hadded : pinsOf m { s.seq n with steps := (s.seq n).steps ++ batch } =
          pinsOf m (s.seq n) + (batch.map Step.slot).count m := by
        rw [pinsOf, List.countP_append, ← countP_slot]
        rfl
      show overSeqs (pinsOf m) (u.setSeq n _) + showsOf m u.player.out = _
      rw [overSeqs_congr (s := s.setSeq n _) fun q => by rw [hseq], hplayer, slotReferences_eq]
      omega
    · show ((u.setSeq n _).seq q).state = .empty → ((u.setSeq n _).seq q).steps = []
      rw [hseq]
      exact emptySteps_setSeq (fun h => by simp [hstate] at h) hs.2 q
  | shorten n k hstate =>
    exact returnSteps_pins (x := { s.seq n with steps := (s.seq n).steps.take k }) (List.take_append_drop _ _).symm
      (fun h => by simp [hstate] at h) hs
  | emptied n hstate => exact emptySequence_pins n hs
  | join u e hu =>
    have hraised : PinsCounted u := by
      unfold raisedFor at hu
      split at hu
      · exact useRaise_pins hu hs
      · exact hu ▸ hs
    exact hraised
  | release l queue out stack hqueue hstack hout hshows =>
    exact useReleases_pins l (pinsCounted_setOut (s := s) rfl rfl (congrArg _ hshows) hs)
  | start e rest tag n o c hqueue hask hout =>
    exact pinsCounted_setOut (s := s) rfl rfl (by rw [hout]; rfl) hs
  | offer e rest o hqueue hask hout =>
    exact pinsCounted_setOut (s := s) rfl rfl (by rw [hout]; rfl) hs
  | resume c c' rest hstack hout =>
    exact pinsCounted_setOut (s := s) rfl rfl (by rw [hout]; rfl) hs
  | push k c c' hout => exact pinsCounted_setOut (s := s) rfl rfl (by rw [hout]; rfl) hs
  | fallback n c hout =>
    have hraised : PinsCounted ((useRaise n s).getD s) := by
      cases hu : useRaise n s with
      | none => exact hs
      | some u => exact useRaise_pins hu hs
    have hplayer : ((useRaise n s).getD s).player.out = .idle := by rw [useRaise_getD_player, hout]
    exact pinsCounted_setOut (s := (useRaise n s).getD s) rfl rfl (by rw [hplayer]; rfl) hraised
  | context k c c' =>
    exact pinsCounted_setOut (s := s) rfl rfl (by rw [State.setContext, State.setOut, shows_withContext]) hs
  | stale c => exact pinsCounted_setOut (s := s) rfl rfl (by rw [State.setContext, State.setOut, shows_withContext]) hs
  | accept k o hout => exact pinsCounted_setOut (s := s) rfl rfl (by rw [hout]; rfl) hs
  | shows k d shows timer hout hslots => exact pinsCounted_setOut (s := s) rfl rfl (by rw [hout]; exact hslots) hs
  | joinShow u k d y hout hu => exact pinsCounted_joinShow hout hu hs
  | endShow k d x rest hout hshows => exact pinsCounted_endShows (gone := [x]) (by rw [hout]; exact hshows) hs
  | endDirect hctx => exact pinsCounted_endShows (List.append_nil _).symm hs
  | _ => exact hs

theorem reset_pinsCounted : PinsCounted State.reset := by
  have hseq := seq_of_empty (s := State.reset) rfl
  have hslot : ∀ n, State.reset.slot n = Slot.free := fun n => by simp [State.slot, State.reset]
  have hrefs : ∀ n, slotReferences State.reset n = 0 := fun n => by
    have hshows : State.reset.player.out.shows = [] := rfl
    simp only [slotReferences, hseq, hshows]
    simp [Sequence.empty]
  refine pinsCounted_of (refs := fun _ => 0) (fun n => ?_) hrefs fun q _ => by rw [hseq q]; rfl
  rw [hslot n]
  exact ⟨rfl, rfl⟩

/-! ## Uses (R53) -/

/-- The uses of each sequence are some number, and a sequence with a use is SEALED. -/
def Used (s : State) (refs : SeqId → Nat) : Prop :=
  ∀ q, (s.seq q).uses = refs q ∧ (0 < (s.seq q).uses → (s.seq q).state = .sealed)

theorem used_setSeq {n : SeqId} {x : Sequence} {refs refs' : SeqId → Nat} (hx : x.uses = refs' n)
    (hsealed : 0 < x.uses → x.state = .sealed) (hrefs : ∀ q, q ≠ n → refs' q = refs q) (h : Used s refs) :
    Used (s.setSeq n x) refs' := fun q => by
  rw [State.seq_setSeq]
  split
  next heq => exact heq ▸ ⟨hx, hsealed⟩
  next hne => rw [hrefs q hne]; exact h q

theorem used_of_seqs {refs : SeqId → Nat} (hseqs : t.seqs = s.seqs) (h : Used s refs) : Used t refs := fun q => by
  rw [State.seq, hseqs]
  exact h q

theorem used_emptySequence {n : SeqId} {refs : SeqId → Nat} (hn : refs n = 0) (h : Used s refs) :
    Used (emptySequence n s) refs :=
  used_of_seqs (s := s.setSeq n Sequence.empty) (pinRelease_seqs _ _)
    (used_setSeq hn.symm nofun (fun _ _ => rfl) h)

theorem used_useRelease {n : SeqId} {refs : SeqId → Nat} (h : Used s refs) :
    Used (useRelease n s) fun q => refs q - [n].count q := by
  have hlowered : Used (s.setSeq n { s.seq n with uses := (s.seq n).uses - 1 }) fun q => refs q - [n].count q :=
    used_setSeq (by simp [(h n).1]) (fun hpos => (h n).2 (Nat.lt_of_lt_of_le hpos (Nat.sub_le _ _)))
      (fun q hq => by simp [Ne.symm hq]) h
  unfold useRelease
  dsimp only
  split
  next hfree =>
    refine used_emptySequence ?_ hlowered
    rw [← (h n).1]
    simpa using hfree.1
  next => exact hlowered

theorem used_useReleases {l : List SeqId} {refs : SeqId → Nat} (h : Used s refs) :
    Used (useReleases l s) fun q => refs q - l.count q := by
  induction l generalizing s refs with
  | nil => exact h
  | cons n l ih =>
    have hrefs : (fun q => refs q - (n :: l).count q) = fun q => refs q - [n].count q - l.count q := funext fun q => by
      rw [← List.singleton_append, List.count_append, Nat.sub_sub]
    rw [hrefs]
    exact ih (used_useRelease (n := n) h)

theorem used_useRaise {n : SeqId} {refs : SeqId → Nat} (hu : useRaise n s = some t) (h : Used s refs) :
    Used t fun q => refs q + [n].count q := by
  obtain ⟨hsealed, rfl⟩ := useRaise_eq hu
  exact used_setSeq (by simp [(h n).1]) (fun _ => hsealed)
    (fun q hq => by simp [Ne.symm hq]) h

theorem seqReferences_eq (s : State) (q : SeqId) :
    seqReferences s q = holdings s.queue s.player.out s.player.stack q + s.player.designated.toList.count q := by
  rw [seqReferences, holdings]
  cases s.player.designated with
  | none => rfl
  | some n => simp [List.count_singleton]

theorem usesCounted_iff : UsesCounted s ↔ s.player.numberGiven ∧ Used s (seqReferences s) := Iff.rfl

theorem usesCounted_of {refs : SeqId → Nat} (hnumber : t.player.numberGiven) (hused : Used t refs)
    (hrefs : ∀ q, seqReferences t q = refs q) : UsesCounted t :=
  ⟨hnumber, fun q => ⟨(hused q).1.trans (hrefs q).symm, (hused q).2⟩⟩

/-- A number at most the last one given. -/
theorem numberGiven_of {x : Player} (h : ∀ k, x.out.number? = some k → k ≤ x.lastNumber) : x.numberGiven := by
  unfold Player.numberGiven
  split
  next k hk => exact h k hk
  next => trivial

theorem le_of_numberGiven {x : Player} {k : Nat} (h : x.numberGiven) (hk : x.out.number? = some k) : k ≤ x.lastNumber := by
  rw [Player.numberGiven, hk] at h
  exact h

end
end Sys2Proof.Machine

/-! PROOF. The uses, the levels and the lights under each move; and what every step keeps of them. -/

namespace Sys2Proof.Machine

set_option Elab.async false

section
variable {a : Leave} {s t : State}

/-! ## The present holding number (R95) -/

theorem number_withContext (o : Output) (c : Context) : (o.withContext c).number? = o.number? := by
  cases o <;> rfl

theorem useReleases_player (l : List SeqId) (s : State) : (useReleases l s).player = s.player :=
  (congrArg State.player (useReleases_frame l s) :)

theorem useReleases_queue (l : List SeqId) (s : State) : (useReleases l s).queue = s.queue :=
  (congrArg State.queue (useReleases_frame l s) :)

theorem raisedFor_player {e : Entry} (h : raisedFor e s t) : t.player = s.player :=
  (congrArg State.player (raisedFor_frame h) :)

theorem raisedForDesignation_player {d : Option SeqId} (h : raisedForDesignation d s t) : t.player = s.player :=
  (congrArg State.player (raisedForDesignation_frame h) :)

/-- The holder keeps its number. -/
theorem numberGiven_kept {x y : Player} (hnumber : y.out.number? = x.out.number?) (hlast : y.lastNumber = x.lastNumber)
    (h : x.numberGiven) : y.numberGiven := by
  rw [Player.numberGiven, hnumber, hlast]
  exact h

theorem Move.keeps_number (h : Move a s t) (hnew : ¬ a.stale) (hs : s.player.numberGiven) : t.player.numberGiven := by
  cases h with
  | outTimer d =>
    exact numberGiven_kept (x := s.player) (Output.number_after s.player.out d) rfl hs
  | designate u d hd hu =>
    rw [releaseDesignated_eq]
    have hplayer : (useReleases s.player.designated.toList u).player = s.player :=
      (useReleases_player _ u).trans (raisedForDesignation_player hu)
    show ({ (useReleases _ u).player with designated := d } : Player).numberGiven
    rw [hplayer]
    exact hs
  | append u n batch hu =>
    have hplayer : u.player = s.player := (congrArg State.player (pinRaise_frame hu) :)
    show u.player.numberGiven
    rwa [hplayer]
  | shorten n k =>
    show (pinRelease _ _).player.numberGiven
    rwa [pinRelease_player]
  | emptied n => rwa [emptySequence_player]
  | join u e hu =>
    show u.player.numberGiven
    rwa [raisedFor_player hu]
  | release l queue out stack hqueue hstack hout =>
    rw [useReleases_player]
    obtain rfl | ⟨rfl | rfl, -⟩ := hout
    · exact hs
    · exact trivial
    · exact trivial
  | start e rest tag n o c => exact Nat.le_refl _
  | offer e rest o => exact Nat.le_refl _
  | spend e rest => exact numberGiven_of fun k hk => (le_of_numberGiven hs hk).trans (Nat.le_succ _)
  | resume c c' rest => exact Nat.le_refl _
  | push k c c' => exact trivial
  | fallback n c => exact Nat.le_refl _
  | context k c c' => exact numberGiven_kept (x := s.player) (number_withContext s.player.out c') rfl hs
  | stale c h => exact absurd h hnew
  | accept k o hout => exact numberGiven_kept (x := s.player) (by rw [hout]; rfl) rfl hs
  | shows k d shows timer hout => exact numberGiven_kept (x := s.player) (by rw [hout]; rfl) rfl hs
  | joinShow u k d y hout hu =>
    have hplayer : u.player = s.player := (congrArg State.player (pinRaise_frame hu) :)
    show k ≤ u.player.lastNumber
    rw [hplayer]
    exact le_of_numberGiven hs (by rw [hout]; rfl)
  | endShow k d x rest hout =>
    show k ≤ (pinRelease _ s).player.lastNumber
    rw [pinRelease_player]
    exact le_of_numberGiven hs (by rw [hout]; rfl)
  | endDirect => exact trivial
  | _ => exact hs

/-! ## Uses (R53) -/

theorem contexts_after (o : Output) (d : Nat) : (o.after d).contexts = o.contexts := by
  cases o <;> rfl

theorem contexts_of_none {o : Output} (h : o.context? = none) : o.contexts = [] := by
  rw [Output.contexts, h]

/-- The queue, the output, the stack and the designation of a state are what its uses are counted by. -/
theorem used_of_refs (hseqs : t.seqs = s.seqs) (hrefs : ∀ q, seqReferences t q = seqReferences s q)
    (h : Used s (seqReferences s)) : Used t (seqReferences t) := by
  have heq : seqReferences t = seqReferences s := funext hrefs
  rw [heq]
  exact used_of_seqs hseqs h

/-- The context that holds the output gives way to one of the same sequence. -/
theorem holdings_context {o o' : Output} {c c' : Context} (ho : o.contexts = [c]) (ho' : o'.contexts = [c'])
    (hseq : c'.seq = c.seq) (queue : List Entry) (stack : List Context) (q : SeqId) :
    holdings queue o' stack q = holdings queue o stack q := by
  simp [holdings, ho, ho', List.countP_cons, hseq]

theorem raisedFor_used {e : Entry} {refs : SeqId → Nat} (h : raisedFor e s t) (hs : Used s refs) :
    Used t fun q => refs q + e.uses.count q := by
  unfold raisedFor at h
  split at h
  next tag n o hask =>
    rw [Entry.uses, hask]
    exact used_useRaise h hs
  next hask =>
    rw [Entry.uses, hask]
    exact h ▸ hs

theorem raisedForDesignation_used {d : Option SeqId} {refs : SeqId → Nat} (h : raisedForDesignation d s t)
    (hs : Used s refs) : Used t fun q => refs q + d.toList.count q := by
  unfold raisedForDesignation at h
  split at h
  · exact used_useRaise h hs
  · exact h ▸ hs

theorem countP_joinQueue (p : Entry → Bool) (e : Entry) (l : List Entry) :
    (joinQueue e l).countP p = l.countP p + [e].countP p := by
  induction l with
  | nil => simp [joinQueue]
  | cons x l ih =>
    unfold joinQueue
    split
    · simp only [List.countP_cons, ih]
      omega
    · simp only [List.countP_cons]
      simp only [List.countP_nil]
      omega

theorem Move.keeps_used (h : Move a s t) (hnew : ¬ a.stale) (hs : Used s (seqReferences s)) :
    Used t (seqReferences t) := by
  cases h with
  | outTimer d =>
    refine used_of_refs (s := s) rfl (fun q => ?_) hs
    show _ + (((s.player.out.after d).contexts ++ _).countP _) + _ = _
    rw [contexts_after]
    rfl
  | designate u d hd hu =>
    rw [releaseDesignated_eq]
    have hplayer : (useReleases s.player.designated.toList u).player = s.player :=
      (useReleases_player _ u).trans (raisedForDesignation_player hu)
    have hqueue : (useReleases s.player.designated.toList u).queue = s.queue :=
      (useReleases_queue _ u).trans (congrArg State.queue (raisedForDesignation_frame hu) :)
    have hused := used_useReleases (l := s.player.designated.toList) (raisedForDesignation_used hu hs)
    have hrefs : seqReferences ((useReleases s.player.designated.toList u).designate d) =
        fun q => seqReferences s q + d.toList.count q - s.player.designated.toList.count q := funext fun q => by
      rw [seqReferences_eq, seqReferences_eq]
      show holdings (useReleases _ u).queue (useReleases _ u).player.out (useReleases _ u).player.stack q + d.toList.count q = _
      rw [hplayer, hqueue]
      omega
    rw [hrefs]
    exact hused
  | seq n x hsteps huses hstate hsealed hok =>
    refine used_setSeq (huses.trans (hs n).1) (fun hpos => ?_) (fun _ _ => rfl) hs
    exact hsealed ((hs n).2 (huses ▸ hpos)) hpos
  | claim n p count hempty =>
    have hzero : (s.seq n).uses = 0 := not_not.mp fun hne => by
      simpa [hempty] using (hs n).2 (Nat.pos_of_ne_zero hne)
    exact used_setSeq (hzero.symm.trans (hs n).1) nofun (fun _ _ => rfl) hs
  | append u n batch hu hstate =>
    have hframe := pinRaise_frame hu
    have hseqs : u.seqs = s.seqs := (congrArg State.seqs hframe :)
    have hqueue : u.queue = s.queue := (congrArg State.queue hframe :)
    have hplayer : u.player = s.player := (congrArg State.player hframe :)
    have hset : Used (s.setSeq n { s.seq n with steps := (s.seq n).steps ++ batch }) (seqReferences s) :=
      used_setSeq (hs n).1 (hs n).2 (fun _ _ => rfl) hs
    refine used_of_refs (s := s.setSeq n { s.seq n with steps := (s.seq n).steps ++ batch })
      (congrArg (fun v : Vector Sequence 32 => v.set n.val _ n.isLt) hseqs) (fun q => ?_) hset
    show u.queue.countP _ + (u.player.out.contexts ++ u.player.stack).countP _ + (if u.player.designated = some q then 1 else 0) = _
    rw [hqueue, hplayer]
    rfl
  | shorten n k hstate =>
    have hset : Used (s.setSeq n { s.seq n with steps := (s.seq n).steps.take k }) (seqReferences s) :=
      used_setSeq (hs n).1 (hs n).2 (fun _ _ => rfl) hs
    refine used_of_refs (s := s.setSeq n { s.seq n with steps := (s.seq n).steps.take k }) (pinRelease_seqs _ _)
      (fun q => ?_) hset
    show (pinRelease _ _).queue.countP _ + ((pinRelease _ _).player.out.contexts ++ (pinRelease _ _).player.stack).countP _
      + (if (pinRelease _ _).player.designated = some q then 1 else 0) = _
    rw [pinRelease_queue, pinRelease_player]
    rfl
  | emptied n hstate =>
    have hzero : seqReferences s n = 0 := by
      rw [← (hs n).1]
      exact not_not.mp fun hne => hne (hstate ((hs n).2 (Nat.pos_of_ne_zero hne)))
    have hrefs : seqReferences (emptySequence n s) = seqReferences s := funext fun q => by
      rw [seqReferences, emptySequence_queue, emptySequence_player]
      rfl
    rw [hrefs]
    exact used_emptySequence hzero hs
  | join u e hu =>
    have hplayer := raisedFor_player hu
    have hrefs : seqReferences { u with queue := joinQueue e s.queue } = fun q => seqReferences s q + e.uses.count q :=
      funext fun q => by
        show (joinQueue e s.queue).countP _ + (u.player.out.contexts ++ u.player.stack).countP _
          + (if u.player.designated = some q then 1 else 0) = _
        rw [countP_joinQueue, countP_names_singleton, hplayer, seqReferences]
        omega
    rw [hrefs]
    exact (raisedFor_used hu hs :)
  | release l queue out stack hqueue hstack hout hshows hholds =>
    have hused : Used (useReleases l { s with queue := queue, player := { s.player with out := out, stack := stack } })
        fun q => seqReferences s q - l.count q := used_useReleases hs
    have hrefs : seqReferences (useReleases l { s with queue := queue, player := { s.player with out := out, stack := stack } }) =
        fun q => seqReferences s q - l.count q := funext fun q => by
      rw [seqReferences_eq, useReleases_player, useReleases_queue, seqReferences_eq, hholds q]
      show holdings queue out stack q + s.player.designated.toList.count q = _
      omega
    rw [hrefs]
    exact hused
  | start e rest tag n o c hqueue hask hout hlevel hseq =>
    refine used_of_refs (s := s) rfl (fun q => ?_) hs
    show rest.countP _ + ([c] ++ s.player.stack).countP _ + _ = s.queue.countP _ + (s.player.out.contexts ++ _).countP _ + _
    rw [hqueue, hout, List.countP_cons, List.singleton_append, List.countP_cons]
    simp only [Entry.names, hask, hseq, Output.contexts, Output.context?, List.nil_append]
    omega
  | offer e rest o hqueue hask hout =>
    refine used_of_refs (s := s) rfl (fun q => ?_) hs
    show rest.countP _ + ([] ++ s.player.stack).countP _ + _ = s.queue.countP _ + (s.player.out.contexts ++ _).countP _ + _
    rw [hqueue, hout, List.countP_cons]
    simp [Entry.names, hask, Output.contexts, Output.context?]
  | spend e rest hqueue hask =>
    refine used_of_refs (s := s) rfl (fun q => ?_) hs
    show rest.countP _ + (s.player.out.contexts ++ s.player.stack).countP _ + (if s.player.designated = some q then 1 else 0)
      = s.queue.countP _ + _ + _
    rw [hqueue, List.countP_cons]
    simp [Entry.names, hask]
  | resume c c' rest hstack hout hseq =>
    refine used_of_refs (s := s) rfl (fun q => ?_) hs
    show _ + ([c'] ++ rest).countP _ + _ = _ + (s.player.out.contexts ++ s.player.stack).countP _ + _
    rw [hstack, hout]
    simp [Output.contexts, Output.context?, List.countP_cons, hseq]
  | push k c c' hout hseq =>
    refine used_of_refs (s := s) rfl (fun q => ?_) hs
    show _ + ([] ++ c' :: s.player.stack).countP _ + _ = _ + (s.player.out.contexts ++ s.player.stack).countP _ + _
    rw [hout]
    simp [Output.contexts, Output.context?, List.countP_cons, hseq]
  | fallback n c hout hd hseq =>
    have hsealed : (s.seq n).state = .sealed := (hs n).2 (by
      rw [(hs n).1, seqReferences, hd]
      simp)
    have hraise : useRaise n s = some (s.setSeq n { s.seq n with uses := (s.seq n).uses + 1 }) := useRaise_of_sealed hsealed
    have hused := used_useRaise hraise hs
    rw [hraise]
    have hrefs : seqReferences { (s.setSeq n { s.seq n with uses := (s.seq n).uses + 1 }) with player := { s.player with
        out := .fallback (s.player.lastNumber + 1) c, lastNumber := s.player.lastNumber + 1 } } =
        fun q => seqReferences s q + [n].count q := funext fun q => by
      show s.queue.countP _ + ([c] ++ s.player.stack).countP _ + _ = s.queue.countP _ + (s.player.out.contexts ++ _).countP _ + _ + _
      rw [hout, List.singleton_append, List.countP_cons, hseq, List.count_singleton]
      simp only [Output.contexts, Output.context?, List.nil_append]
      omega
    show Used _ (seqReferences { (s.setSeq n { s.seq n with uses := (s.seq n).uses + 1 }) with player := { s.player with
        out := .fallback (s.player.lastNumber + 1) c, lastNumber := s.player.lastNumber + 1 } })
    rw [hrefs]
    exact used_of_seqs rfl hused
  | context k c c' hout hseq =>
    refine used_of_refs (s := s) rfl (fun q => ?_) hs
    rw [seqReferences_eq, seqReferences_eq]
    exact congrArg (· + _) (holdings_context (Output.contexts_of_context hout)
      (Output.contexts_of_context (Output.context_withContext c' hout)) hseq _ _ q)
  | stale c h => exact absurd h hnew
  | accept k o hout =>
    refine used_of_refs (s := s) rfl (fun q => ?_) hs
    show _ + ([] ++ s.player.stack).countP _ + _ = _ + (s.player.out.contexts ++ s.player.stack).countP _ + _
    rw [hout]
    rfl
  | shows k d shows timer hout =>
    refine used_of_refs (s := s) rfl (fun q => ?_) hs
    show _ + ([] ++ s.player.stack).countP _ + _ = _ + (s.player.out.contexts ++ s.player.stack).countP _ + _
    rw [hout]
    rfl
  | joinShow u k d y hout hu =>
    have hframe := pinRaise_frame hu
    have hqueue : u.queue = s.queue := (congrArg State.queue hframe :)
    have hplayer : u.player = s.player := (congrArg State.player hframe :)
    refine used_of_refs (s := s) (congrArg State.seqs hframe :) (fun q => ?_) hs
    show u.queue.countP _ + ([] ++ u.player.stack).countP _ + (if u.player.designated = some q then 1 else 0)
      = _ + (s.player.out.contexts ++ s.player.stack).countP _ + _
    rw [hqueue, hplayer, hout]
    rfl
  | endShow k d x rest hout =>
    refine used_of_refs (s := s) (pinRelease_seqs _ s) (fun q => ?_) hs
    show (pinRelease _ s).queue.countP _ + ([] ++ (pinRelease _ s).player.stack).countP _
      + (if (pinRelease _ s).player.designated = some q then 1 else 0)
      = _ + (s.player.out.contexts ++ s.player.stack).countP _ + _
    rw [pinRelease_queue, pinRelease_player, hout]
    rfl
  | endDirect hctx =>
    refine used_of_refs (s := s) (pinRelease_seqs _ s) (fun q => ?_) hs
    show (pinRelease _ s).queue.countP _ + ([] ++ (pinRelease _ s).player.stack).countP _
      + (if (pinRelease _ s).player.designated = some q then 1 else 0)
      = _ + (s.player.out.contexts ++ s.player.stack).countP _ + _
    rw [pinRelease_queue, pinRelease_player, contexts_of_none hctx]
  | _ => exact hs

theorem Move.keeps_uses (h : Move a s t) (hnew : ¬ a.stale) (hs : UsesCounted s) : UsesCounted t :=
  ⟨h.keeps_number hnew hs.1, h.keeps_used hnew hs.2⟩

theorem reset_usesCounted : UsesCounted State.reset := by
  refine ⟨trivial, fun q => ?_⟩
  rw [seq_of_empty (s := State.reset) rfl q]
  exact ⟨rfl, nofun⟩

end
end Sys2Proof.Machine

/-! PROOF. The order of levels, the lights, the hold level and the designation under each move; what every step keeps; and
SET_HOLD_LEVEL and SET_FALLBACK. -/

namespace Sys2Proof.Machine

set_option Elab.async false

section
variable {a : Leave} {s t : State}

/-! ## Levels (R59, R60, R80) -/

theorem mem_joinQueue {e x : Entry} {l : List Entry} : x ∈ joinQueue e l ↔ x = e ∨ x ∈ l := by
  induction l with
  | nil => simp [joinQueue]
  | cons y l ih =>
    unfold joinQueue
    split
    · simp only [List.mem_cons, ih]
      tauto
    · simp only [List.mem_cons]

theorem joinQueue_length (e : Entry) (l : List Entry) : (joinQueue e l).length = l.length + 1 := by
  induction l with
  | nil => rfl
  | cons y l ih =>
    unfold joinQueue
    split
    · rw [List.length_cons, ih, List.length_cons]
    · rfl

/-- An entry joins an ordered queue at its place (R60). -/
theorem joinQueue_ordered {e : Entry} {l : List Entry} (h : l.Pairwise fun d e => e.level ≤ d.level) :
    (joinQueue e l).Pairwise fun d e => e.level ≤ d.level := by
  induction l with
  | nil => simp [joinQueue]
  | cons y l ih =>
    obtain ⟨hy, hl⟩ := List.pairwise_cons.mp h
    unfold joinQueue
    split
    next hle =>
      refine List.pairwise_cons.mpr ⟨fun x hx => ?_, ih hl⟩
      obtain rfl | hx := mem_joinQueue.mp hx
      · exact hle
      · exact hy x hx
    next hlt =>
      refine List.pairwise_cons.mpr ⟨fun x hx => ?_, h⟩
      obtain rfl | hx := List.mem_cons.mp hx
      · omega
      · exact (hy x hx).trans (by omega)

/-- The queue is in order of levels and within its size. -/
def QueueOrdered (l : List Entry) : Prop :=
  l.Pairwise (fun d e => e.level ≤ d.level) ∧ l.length ≤ Config.queueSize ∧ ∀ e ∈ l, e.inRange

theorem levelsOrdered_iff :
    LevelsOrdered s ↔ QueueOrdered s.queue ∧ s.player.stackOrdered ∧ s.player.numberGiven :=
  ⟨fun ⟨h₁, h₂, h₃, h₄, h₅⟩ => ⟨⟨h₁, h₂, h₃⟩, h₄, h₅⟩, fun ⟨⟨h₁, h₂, h₃⟩, h₄, h₅⟩ => ⟨h₁, h₂, h₃, h₄, h₅⟩⟩

theorem QueueOrdered.sublist {l k : List Entry} (h : QueueOrdered l) (hk : k.Sublist l) : QueueOrdered k :=
  ⟨h.1.sublist hk, hk.length_le.trans h.2.1, fun e he => h.2.2 e (hk.mem he)⟩

theorem QueueOrdered.tail {e : Entry} {rest : List Entry} (h : QueueOrdered s.queue) (hq : s.queue = e :: rest) :
    QueueOrdered rest :=
  h.sublist (hq ▸ List.sublist_cons_self e rest)

theorem QueueOrdered.head {e : Entry} {rest : List Entry} (h : QueueOrdered s.queue) (hq : s.queue = e :: rest) :
    e.inRange :=
  h.2.2 e (hq ▸ List.mem_cons_self)

/-- The levels of the stack, bottom to top, and of the holder. -/
def StackOrdered (stack : List Context) (level : Option Nat) : Prop :=
  stack.Pairwise (fun c d => d.level.getD 0 < c.level.getD 0)
    ∧ (∀ c ∈ stack, 1 ≤ c.level.getD 0 ∧ c.level.getD 0 ≤ 6)
    ∧ ∀ l, level = some l → 1 ≤ l ∧ l ≤ 7 ∧ ∀ c ∈ stack, c.level.getD 0 < l

theorem stackOrdered_iff {x : Player} : x.stackOrdered ↔ StackOrdered x.stack x.out.level? := by
  unfold Player.stackOrdered StackOrdered
  cases x.out.level? <;> simp

/-- A level above the top of the stack is above all of it. -/
theorem StackOrdered.below {stack : List Context} {level : Option Nat} {l : Nat} (h : StackOrdered stack level)
    (hl : ∀ c, stack.head? = some c → c.level.getD 0 < l) : ∀ c ∈ stack, c.level.getD 0 < l := by
  cases stack with
  | nil => simp
  | cons d rest =>
    have hd := hl d rfl
    exact List.forall_mem_cons.mpr ⟨hd, fun c hc => ((List.pairwise_cons.mp h.1).1 c hc).trans hd⟩

theorem StackOrdered.hold {stack : List Context} {level level' : Option Nat} (h : StackOrdered stack level)
    (hl : ∀ l, level' = some l → 1 ≤ l ∧ l ≤ 7 ∧ ∀ c ∈ stack, c.level.getD 0 < l) : StackOrdered stack level' :=
  ⟨h.1, h.2.1, hl⟩

theorem StackOrdered.sublist {stack stack' : List Context} {level : Option Nat} (h : StackOrdered stack level)
    (hs : stack'.Sublist stack) : StackOrdered stack' level :=
  ⟨h.1.sublist hs, fun c hc => h.2.1 c (hs.mem hc), fun l hl =>
    ⟨(h.2.2 l hl).1, (h.2.2 l hl).2.1, fun c hc => (h.2.2 l hl).2.2 c (hs.mem hc)⟩⟩

theorem stackLevel_above {l : Nat} (h : s.stackLevel < l) : ∀ c, s.player.stack.head? = some c → c.level.getD 0 < l :=
  fun c hc => by
    unfold State.stackLevel at h
    cases hstack : s.player.stack with
    | nil => simp [hstack] at hc
    | cons d rest =>
      rw [hstack] at h hc
      cases hc
      exact h

theorem level_withContext {o : Output} {k : Nat} {c c' : Context} (ho : o.context? = some (k, c)) (h : c'.level = c.level) :
    (o.withContext c').level? = o.level? := by
  cases o with
  | running k d => cases ho; simp [Output.withContext, Output.level?, h]
  | fallback k d => rfl
  | _ => cases ho

theorem level_after (o : Output) (d : Nat) : (o.after d).level? = o.level? := by
  cases o <;> rfl

/-- What the order of levels is about. -/
def Ordered (s : State) : Prop := QueueOrdered s.queue ∧ StackOrdered s.player.stack s.player.out.level?

theorem ordered_of (hqueue : t.queue = s.queue) (hstack : t.player.stack = s.player.stack)
    (hlevel : t.player.out.level? = s.player.out.level?) (h : Ordered s) : Ordered t := by
  rw [Ordered, hqueue, hstack, hlevel]
  exact h

theorem ordered_of_player (hqueue : t.queue = s.queue) (hplayer : t.player = s.player) (h : Ordered s) : Ordered t :=
  ordered_of hqueue (by rw [hplayer]) (by rw [hplayer]) h

theorem Move.keeps_order (h : Move a s t) (hnew : ¬ a.stale) (hs : Ordered s) : Ordered t := by
  obtain ⟨hqueue, hstack⟩ := id hs
  cases h with
  | outTimer d => exact ordered_of (s := s) rfl rfl (level_after s.player.out d) hs
  | designate u d hd hu =>
    rw [releaseDesignated_eq]
    have hframe := (congrArg State.player (raisedForDesignation_frame hu) :)
    have hq := (congrArg State.queue (raisedForDesignation_frame hu) :)
    exact ordered_of (s := s) ((useReleases_queue _ u).trans hq)
      (congrArg Player.stack ((useReleases_player _ u).trans hframe) :)
      (congrArg (fun x : Player => x.out.level?) ((useReleases_player _ u).trans hframe) :) hs
  | append u n batch hu =>
    exact ordered_of_player (s := s) (congrArg State.queue (pinRaise_frame hu) :) (congrArg State.player (pinRaise_frame hu) :) hs
  | shorten n k => exact ordered_of_player (s := s) (pinRelease_queue _ _) (pinRelease_player _ _) hs
  | emptied n => exact ordered_of_player (emptySequence_queue n s) (emptySequence_player n s) hs
  | join u e hu hrange hlen =>
    refine ⟨⟨joinQueue_ordered hqueue.1, ?_, fun x hx => ?_⟩, ?_⟩
    · show (joinQueue e s.queue).length ≤ _
      rw [joinQueue_length]
      exact hlen
    · obtain rfl | hx := mem_joinQueue.mp hx
      · exact hrange
      · exact hqueue.2.2 x hx
    · show StackOrdered u.player.stack u.player.out.level?
      rw [raisedFor_player hu]
      exact hstack
  | release l queue out stack hsub hstack' hout =>
    rw [Ordered, useReleases_queue, useReleases_player]
    refine ⟨hqueue.sublist hsub, ?_⟩
    obtain rfl | ⟨rfl | rfl, -⟩ := hout
    · exact hstack.sublist hstack'
    · exact (hstack.sublist hstack').hold nofun
    · exact (hstack.sublist hstack').hold nofun
  | start e rest tag n o c hq hask hout hlevel hseq hc =>
    refine ⟨hqueue.tail hq, hstack.hold fun l hl => ?_⟩
    obtain rfl : e.level = l := by simpa [Output.level?, hc] using hl
    have hrange := hqueue.head hq
    simp only [Entry.inRange, hask] at hrange
    exact ⟨hrange.1, hrange.2, hstack.below (stackLevel_above hlevel)⟩
  | offer e rest o hq hask hout hlevel ho =>
    refine ⟨hqueue.tail hq, hstack.hold fun l hl => ?_⟩
    obtain rfl : e.level = l := by simpa [Output.level?, ho] using hl
    have hrange := hqueue.head hq
    simp only [Entry.inRange, hask] at hrange
    exact ⟨hrange.1, hrange.2.trans (by decide), hstack.below (stackLevel_above hlevel)⟩
  | spend e rest hq => exact ⟨hqueue.tail hq, hstack⟩
  | resume c c' rest hst hout hseq hlevel =>
    rw [hst] at hstack
    obtain ⟨hpair, hrange, -⟩ := hstack
    obtain ⟨hc, hrest⟩ := List.pairwise_cons.mp hpair
    obtain ⟨hcrange, hrestrange⟩ := List.forall_mem_cons.mp hrange
    refine ⟨hqueue, hrest, hrestrange, fun l hl => ?_⟩
    obtain rfl : c.level.getD 0 = l := by simpa [Output.level?, hlevel] using hl
    exact ⟨hcrange.1, hcrange.2.trans (by decide), hc⟩
  | push k c c' hout hseq hlevel hdark hhead =>
    obtain ⟨e, he, own, hown, hlt⟩ := hhead
    obtain ⟨hpair, hrange, habove⟩ := hstack
    obtain ⟨hlow, -, hbelow⟩ := habove own (by simp [hout, Output.level?, hown])
    have hown' : c'.level.getD 0 = own := by rw [hlevel, hown]; rfl
    have hseven : e.level ≤ 7 := by
      have := hqueue.2.2 e he
      unfold Entry.inRange at this
      cases hask : e.ask <;> simp only [hask] at this <;> omega
    refine ⟨hqueue, List.pairwise_cons.mpr ⟨fun c hc => hown' ▸ hbelow c hc, hpair⟩,
      List.forall_mem_cons.mpr ⟨by omega, hrange⟩, nofun⟩
  | fallback n c hout =>
    refine ⟨?_, hstack.hold nofun⟩
    rw [show ((useRaise n s).getD s).queue = s.queue from (congrArg State.queue (useRaise_getD_frame n) :)]
    exact hqueue
  | context k c c' hout hseq hlevel => exact ordered_of (s := s) rfl rfl (level_withContext hout hlevel) hs
  | stale c h => exact absurd h hnew
  | accept k o hout => exact ordered_of (s := s) rfl rfl (by rw [hout]; rfl) hs
  | shows k d shows timer hout => exact ordered_of (s := s) rfl rfl (by rw [hout]; rfl) hs
  | joinShow u k d y hout hu =>
    have hplayer : u.player = s.player := (congrArg State.player (pinRaise_frame hu) :)
    exact ordered_of (s := s) (congrArg State.queue (pinRaise_frame hu) :) (congrArg Player.stack hplayer :)
      (by rw [hout]; rfl) hs
  | endShow k d x rest hout =>
    exact ordered_of (s := s) (pinRelease_queue _ s) (congrArg Player.stack (pinRelease_player _ s) :) (by rw [hout]; rfl) hs
  | endDirect =>
    refine ⟨?_, ?_⟩
    · show QueueOrdered (pinRelease _ s).queue
      rw [pinRelease_queue]
      exact hqueue
    · show StackOrdered (pinRelease _ s).player.stack _
      rw [pinRelease_player]
      exact hstack.hold nofun
  | _ => exact hs

theorem Move.keeps_levels (h : Move a s t) (hnew : ¬ a.stale) (hs : LevelsOrdered s) : LevelsOrdered t := by
  obtain ⟨hqueue, hstack, hnumber⟩ := levelsOrdered_iff.mp hs
  obtain ⟨hqueue', hstack'⟩ := h.keeps_order hnew ⟨hqueue, stackOrdered_iff.mp hstack⟩
  exact levelsOrdered_iff.mpr ⟨hqueue', stackOrdered_iff.mpr hstack', h.keeps_number hnew hnumber⟩

theorem reset_levelsOrdered : LevelsOrdered State.reset :=
  ⟨List.Pairwise.nil, Nat.zero_le _, nofun, ⟨List.Pairwise.nil, nofun, trivial⟩, trivial⟩

end
end Sys2Proof.Machine

/-! PROOF. The lights, the hold level and the designation under each move; what every step keeps; and SET_HOLD_LEVEL (R72) and
SET_FALLBACK (R97). -/

namespace Sys2Proof.Machine

set_option Elab.async false

section
variable {a : Leave} {s t : State}

/-! ## Lights (R129) -/

/-- A channel is lit only in a hold. -/
def LitInHold (s : State) : Prop := ∀ c, (s.light c).on = true → s.player.out.inHold = true

theorem litInHold_of (hlights : t.lights = s.lights) (hhold : s.player.out.inHold = true → t.player.out.inHold = true)
    (h : LitInHold s) : LitInHold t := fun c hc => by
  rw [State.light, hlights] at hc
  exact hhold (h c hc)

/-- What is lit is dark, if it is lit only in a hold and a hold is dark. -/
theorem dark_of_litInHold (h : LitInHold s) (hdark : s.player.out.inHold = true → s.dark) : s.dark := fun c => by
  cases hc : (s.light c).on with
  | false => rfl
  | true => exact hc.symm.trans (hdark (h c hc) c)

theorem litInHold_of_dark (hlights : t.lights = s.lights) (h : s.dark) : LitInHold t := fun c hc => by
  rw [State.light, hlights] at hc
  exact absurd (hc.symm.trans (h c)) (by decide)

theorem dark_of_idle (h : LitInHold s) (hout : s.player.out = .idle) : s.dark :=
  dark_of_litInHold h fun hh => by rw [hout] at hh; cases hh

theorem inHold_after (o : Output) (d : Nat) : (o.after d).inHold = o.inHold := by
  cases o <;> rfl

theorem Move.keeps_lit (h : Move a s t) (hnew : ¬ a.stale) (hs : LitInHold s) : LitInHold t := by
  cases h with
  | dim v h => exact fun c hc => hs c (h c hc)
  | light v h => exact fun _ _ => h
  | outTimer d => exact litInHold_of (s := s) rfl (fun h => (inHold_after s.player.out d).trans h) hs
  | designate u d hd hu =>
    rw [releaseDesignated_eq]
    have hlights : (useReleases s.player.designated.toList u).lights = s.lights :=
      (congrArg State.lights (useReleases_frame _ u) :).trans (congrArg State.lights (raisedForDesignation_frame hu) :)
    have hplayer : (useReleases s.player.designated.toList u).player = s.player :=
      (useReleases_player _ u).trans (raisedForDesignation_player hu)
    exact litInHold_of (s := s) hlights (fun h => (congrArg (fun x : Player => x.out.inHold) hplayer :).trans h) hs
  | append u n batch hu =>
    have hframe := pinRaise_frame hu
    exact litInHold_of (s := s) (congrArg State.lights hframe :)
      (fun h => (congrArg (fun u : State => u.player.out.inHold) hframe :).trans h) hs
  | shorten n k =>
    exact litInHold_of (s := s) (pinRelease_lights _ _)
      (fun h => (congrArg (fun x : Player => x.out.inHold) (pinRelease_player _ _) :).trans h) hs
  | emptied n =>
    exact litInHold_of (s := s) (emptySequence_lights n s)
      (fun h => (congrArg (fun x : Player => x.out.inHold) (emptySequence_player n s) :).trans h) hs
  | join u e hu =>
    exact litInHold_of (s := s) (congrArg State.lights (raisedFor_frame hu) :)
      (fun h => (congrArg (fun x : Player => x.out.inHold) (raisedFor_player hu) :).trans h) hs
  | release l queue out stack hqueue hstack hout =>
    have hframe := useReleases_frame l { s with queue := queue, player := { s.player with out := out, stack := stack } }
    have hlights := (congrArg State.lights hframe :)
    obtain rfl | ⟨-, hdark⟩ := hout
    · exact litInHold_of (s := s) hlights (fun h => (congrArg (fun u : State => u.player.out.inHold) hframe :).trans h) hs
    · exact litInHold_of_dark (s := s) hlights (dark_of_litInHold hs hdark)
  | start e rest tag n o c hqueue hask hout => exact litInHold_of_dark (s := s) rfl (dark_of_idle hs hout)
  | offer e rest o hqueue hask hout => exact litInHold_of_dark (s := s) rfl (dark_of_idle hs hout)
  | resume c c' rest hstack hout => exact litInHold_of_dark (s := s) rfl (dark_of_idle hs hout)
  | push k c c' hout hseq hlevel hdark => exact litInHold_of_dark (s := s) rfl (dark_of_litInHold hs hdark)
  | fallback n c hout =>
    exact litInHold_of_dark (congrArg State.lights (useRaise_getD_frame n) :) (dark_of_idle hs hout)
  | context k c c' hout hseq hlevel hhold =>
    by_cases hphase : c.phase = some .hold
    · obtain hkept | hdark := hhold hphase
      · refine litInHold_of (s := s) rfl (fun _ => ?_) hs
        show (s.player.out.withContext c').inHold = true
        rw [Output.inHold_of_context (Output.context_withContext c' hout), hkept]
        rfl
      · exact litInHold_of_dark (s := s) rfl hdark
    · refine litInHold_of_dark (s := s) rfl (dark_of_litInHold hs fun h => absurd ?_ hphase)
      rw [Output.inHold_of_context hout] at h
      simpa using h
  | stale c h => exact absurd h hnew
  | accept k o hout => exact litInHold_of (s := s) rfl (fun h => by rw [hout] at h; cases h) hs
  | shows k d shows timer hout hslots hhold => exact litInHold_of (s := s) rfl hhold hs
  | joinShow u k d y hout hu =>
    refine litInHold_of (s := s) (congrArg State.lights (pinRaise_frame hu) :) (fun h => ?_) hs
    rw [hout] at h
    show (Output.direct k { d with shows := d.shows ++ [y] }).inHold = true
    cases hshows : d.shows <;> simp_all [Output.inHold]
  | endShow k d x rest hout hshows hdark => exact litInHold_of_dark (pinRelease_lights _ s) (dark_of_litInHold hs hdark)
  | endDirect hctx hdark => exact litInHold_of_dark (pinRelease_lights _ s) (dark_of_litInHold hs hdark)
  | _ => exact hs

theorem Move.keeps_lights (h : Move a s t) (hnew : ¬ a.stale) (hs : LightsInHold s) : LightsInHold t :=
  ⟨h.keeps_lit hnew hs.1, h.keeps_number hnew hs.2⟩

theorem reset_portsAccounted : PortsAccounted State.reset := fun p => by
  have hport : State.reset.port p = Port.afterReset .ordinary false := by simp [State.port, State.reset]
  rw [hport]
  exact afterReset_accounted .ordinary false none

theorem reset_lightsInHold : LightsInHold State.reset :=
  ⟨fun c hc => by simp [State.light, State.reset, Light.afterReset] at hc, trivial⟩

/-! ## The hold level and the designation (R72, R97) -/

theorem Move.keeps_holdLevel (h : Move a s t) (hnot : ¬ a.holdLevel) : t.player.holdLevel = s.player.holdLevel := by
  cases h with
  | holdLevel n h => exact absurd h hnot
  | designate u d hd hu =>
    rw [releaseDesignated_eq]
    exact (congrArg Player.holdLevel ((useReleases_player _ u).trans (raisedForDesignation_player hu)) :)
  | append u n batch hu => exact (congrArg (fun u : State => u.player.holdLevel) (pinRaise_frame hu) :)
  | shorten n k => exact (congrArg Player.holdLevel (pinRelease_player _ _) :)
  | emptied n => exact congrArg Player.holdLevel (emptySequence_player n s)
  | join u e hu => exact (congrArg Player.holdLevel (raisedFor_player hu) :)
  | release l queue out stack => exact (congrArg Player.holdLevel (useReleases_player l _) :)
  | joinShow u k d y hout hu => exact (congrArg (fun u : State => u.player.holdLevel) (pinRaise_frame hu) :)
  | endShow k d x rest => exact (congrArg Player.holdLevel (pinRelease_player _ s) :)
  | endDirect => exact (congrArg Player.holdLevel (pinRelease_player _ s) :)
  | _ => rfl

theorem Move.keeps_designated (h : Move a s t) (hnot : ¬ a.designate) : t.player.designated = s.player.designated := by
  cases h with
  | designate u d hd => exact absurd hd hnot
  | append u n batch hu => exact (congrArg (fun u : State => u.player.designated) (pinRaise_frame hu) :)
  | shorten n k => exact (congrArg Player.designated (pinRelease_player _ _) :)
  | emptied n => exact congrArg Player.designated (emptySequence_player n s)
  | join u e hu => exact (congrArg Player.designated (raisedFor_player hu) :)
  | release l queue out stack => exact (congrArg Player.designated (useReleases_player l _) :)
  | joinShow u k d y hout hu => exact (congrArg (fun u : State => u.player.designated) (pinRaise_frame hu) :)
  | endShow k d x rest => exact (congrArg Player.designated (pinRelease_player _ s) :)
  | endDirect => exact (congrArg Player.designated (pinRelease_player _ s) :)
  | _ => rfl

/-- What a command may leave of the hold level and the designation. -/
def commandLeave (i : Instr) : Leave :=
  { stale := True, holdLevel := ∃ p, i = .setHoldLevel p, designate := ∃ p, i = .setFallback p }

theorem exec_keeps {β : Type} {i : Instr} (g : State → β) (h : exec i s = .next t) (hchip : ∀ straps, i ≠ .chipReset straps)
    (hmove : ∀ u v, Move (commandLeave i) u v → g v = g u) : g t = g s := by
  have hmoves : Moves (commandLeave i) s t :=
    exec_moves h hchip (.inl trivial) (fun p hp => ⟨p, hp⟩) fun p hp => ⟨p, hp⟩
  clear h
  induction hmoves with
  | refl => rfl
  | tail _ hm ih => exact (hmove _ _ hm).trans ih

end

section
variable {s : State} {p : PortId}

/-! ## SET_HOLD_LEVEL (R72) -/

theorem setHoldLevel_ordinary {h : Byte} (hcls : (s.port p).cls = .ordinary) :
    setHoldLevel p [h] s = refuse .notPermitted s := by
  rw [setHoldLevel, ofLength_of_length_eq (show [h].length = 1 from rfl), controlOnly_of_ordinary hcls]

theorem setHoldLevel_control {h : Byte} (hcls : (s.port p).cls = .control) :
    setHoldLevel p [h] s =
      if 6 < h.toNat then refuse .badArgument s
      else done (u8 s.player.holdLevel) { s with player := { s.player with holdLevel := h.toNat } } := by
  rw [setHoldLevel, ofLength_of_length_eq (show [h].length = 1 from rfl), controlOnly_of_control hcls]
  rfl

theorem exec_setHoldLevel {h : Byte} (ha : Asked s p .setHoldLevel (.atBlock .player) [h]) :
    exec (.setHoldLevel p) s = .next
      (if (s.port p).cls = .ordinary then s.reply p { status := .notPermitted, body := [] }
      else if 6 < h.toNat then s.reply p { status := .badArgument, body := [] }
      else select (({ s with player := { s.player with holdLevel := h.toNat } } : State).reply p
        { status := .done, body := [BitVec.ofNat 8 s.player.holdLevel] })) := by
  rw [exec_setHoldLevel_asked ha]
  cases hcls : (s.port p).cls with
  | ordinary =>
    rw [setHoldLevel_ordinary hcls]
    rfl
  | control =>
    rw [setHoldLevel_control hcls]
    split
    · rfl
    · rfl

/-! ## SET_FALLBACK (R97) -/

/-- The fallback sequence that a SET_FALLBACK reports, as its reply gives it. -/
theorem opt_seqByte (d : Option SeqId) :
    opt 1 seqByte d = match d with | some m => seqByte m | none => [0xFF] := by
  cases d <;> rfl

theorem seqId_ne_none (n : SeqId) : ¬ n.val = 255 := by omega

theorem setFallback_same {n : SeqId} (hcls : (s.port p).cls = .control) (hd : s.player.designated = some n) :
    setFallback p [BitVec.ofNat 8 n.val] s = done (opt 1 seqByte s.player.designated) s := by
  rw [setFallback, ofLength_of_length_eq (show [BitVec.ofNat 8 n.val].length = 1 from rfl), controlOnly_of_control hcls]
  simp only [if_neg (seqId_ne_none n), field1_seqId n [], seqOf_val, if_pos hd]

theorem setFallback_of_not_sealed {n : SeqId} (hcls : (s.port p).cls = .control) (hd : s.player.designated ≠ some n)
    (hs : (s.seq n).state ≠ .sealed) : setFallback p [BitVec.ofNat 8 n.val] s = refuse .wrongState s := by
  have hraise : useRaise n s = none := if_neg hs
  rw [setFallback, ofLength_of_length_eq (show [BitVec.ofNat 8 n.val].length = 1 from rfl), controlOnly_of_control hcls]
  simp only [if_neg (seqId_ne_none n), field1_seqId n [], seqOf_val, if_neg hd, hraise]

theorem setFallback_of_sealed {n : SeqId} (hcls : (s.port p).cls = .control) (hd : s.player.designated ≠ some n)
    (hs : (s.seq n).state = .sealed) :
    setFallback p [BitVec.ofNat 8 n.val] s = done (opt 1 seqByte s.player.designated)
      ((releaseDesignated s.player.designated (s.setSeq n { s.seq n with uses := (s.seq n).uses + 1 })).designate (some n)) := by
  rw [setFallback, ofLength_of_length_eq (show [BitVec.ofNat 8 n.val].length = 1 from rfl), controlOnly_of_control hcls]
  simp only [if_neg (seqId_ne_none n), field1_seqId n [], seqOf_val, if_neg hd, useRaise_of_sealed hs]

theorem setFallback_none (hcls : (s.port p).cls = .control) :
    setFallback p [0xFF] s =
      done (opt 1 seqByte s.player.designated) ((releaseDesignated s.player.designated s).designate none) := by
  rw [setFallback, ofLength_of_length_eq (show [(0xFF : Byte)].length = 1 from rfl), controlOnly_of_control hcls]
  rfl

end

/-- Settles O32: the checks of the two commands in turn, and that no move of another command changes either. -/
theorem holdLevelAndDesignationAreSet : Obligations.HoldLevelAndDesignationAreSet := by
  refine ⟨fun s p h ha => exec_setHoldLevel ha, fun s p n ha hcls => ⟨fun hd => ?_, fun hd hs => ?_, fun hd hs => ?_⟩,
    fun s p ha hcls => ?_, fun i s t h hchip => ⟨fun hnot => ?_, fun hnot => ?_⟩⟩
  · rw [exec_setFallback_asked ha, setFallback_same hcls hd, opt_seqByte]
    rfl
  · rw [exec_setFallback_asked ha, setFallback_of_not_sealed hcls hd hs]
    rfl
  · rw [exec_setFallback_asked ha, setFallback_of_sealed hcls hd hs, opt_seqByte]
    rfl
  · rw [exec_setFallback_asked ha, setFallback_none hcls, opt_seqByte]
    rfl
  · exact exec_keeps (fun u => u.player.holdLevel) h hchip fun u v hm => hm.keeps_holdLevel fun ⟨p, hp⟩ => hnot p hp
  · exact exec_keeps (fun u => u.player.designated) h hchip fun u v hm => hm.keeps_designated fun ⟨p, hp⟩ => hnot p hp

/-- Settles O54: a step is a run of moves or a chip reset, and each move that changes references to slots moves their pins. -/
theorem pinsStayCounted : Obligations.PinsStayCounted := fun _ _ hs h =>
  step_keeps (fun _ _ hm => hm.keeps_pins) (fun _ _ => reset_pinsCounted) h hs

/-- Settles O55: a step is a run of moves or a chip reset, and each move that changes step lists moves the records. -/
theorem poolStaysBalanced : Obligations.PoolStaysBalanced := fun _ _ hs h =>
  step_keeps (fun _ _ hm => hm.keeps_pool) (fun _ _ => reset_poolBalanced) h hs

/-- Settles O56: a step is a run of moves or a chip reset, and each move that changes references to sequences moves their
uses. -/
theorem usesStayCounted : Obligations.UsesStayCounted := fun s _ hs h =>
  step_keeps (fun _ _ hm => hm.keeps_uses (a := stepLeave s) fun hstale => hstale hs.1) (fun _ _ => reset_usesCounted) h hs

/-- Settles O58: a step is a run of moves or a chip reset, and each move keeps the order of levels and the lights. -/
theorem levelsAndLightsStayInOrder : Obligations.LevelsAndLightsStayInOrder := fun s _ h =>
  ⟨fun hs => step_keeps (fun _ _ hm => hm.keeps_levels (a := stepLeave s) fun hstale => hstale (levelsOrdered_iff.mp hs).2.2)
      (fun _ _ => reset_levelsOrdered) h hs,
    fun hs => step_keeps (fun _ _ hm => hm.keeps_lights (a := stepLeave s) fun hstale => hstale hs.2)
      (fun _ _ => reset_lightsInHold) h hs⟩

/-- Settles O52. -/
theorem resetMeetsTheInvariants : Obligations.ResetMeetsTheInvariants :=
  ⟨reset_memoryCanonical, reset_pinsCounted, reset_poolBalanced, reset_usesCounted,
    reset_portsAccounted, reset_levelsOrdered, reset_lightsInHold, reset_linkConsistent,
    reset_latchesConsistent, reset_loaderConsistent⟩

/-- Settles O1: the queue's front command is what a step runs. -/
theorem stepRunsFrontCommand : Obligations.StepRunsFrontCommand := fun s c rest h => by
  rw [step, h]

end Sys2Proof.Machine

/-! PROOF. The host ports: the frames of requests (R160, R173), WRITE, READ and PORT_RESET (R145 to R151), the start of requests
(R163), arrivals (R158, R169), and the commands that a port executes itself (R155 to R159). -/

namespace Sys2Proof.Machine

set_option Elab.async false

/-! ## Frames (R160, R173) -/

/-- Two bytes are the low and the high byte of the number they spell. -/
theorem le2_of_bytes (x y : Byte) : le2 (x.toNat + 256 * y.toNat) = [x, y] := by
  have hx := x.isLt
  have hy := y.isLt
  have hlow : BitVec.ofNat 8 (x.toNat + 256 * y.toNat) = x := BitVec.eq_of_toNat_eq (by rw [BitVec.toNat_ofNat]; omega)
  have hhigh : BitVec.ofNat 8 ((x.toNat + 256 * y.toNat) / 256) = y :=
    BitVec.eq_of_toNat_eq (by rw [BitVec.toNat_ofNat]; omega)
  rw [le2, hlow, hhigh]

/-- The bytes of a frame before its CRC, from the tag on. -/
def Request.inner (r : Request) : List Byte := r.tag :: r.code :: (le2 r.body.length ++ r.body)

theorem Request.frame_eq (r : Request) : r.frame = 0xA5 :: (r.inner ++ le2 (crc16 r.inner).toNat) := rfl

theorem Request.inner_length (r : Request) : r.inner.length = r.body.length + 4 := by
  simp [Request.inner]
  omega

theorem field2_of_crc (c : BitVec 16) (l : List Byte) (i : Nat) (h : i = l.length) :
    BitVec.ofNat 16 (field2 (l ++ le2 c.toNat) i) = c := by
  have hfield := field2_append_right l (le2 c.toNat) 0
  have hle2 := field2_le2 c.toNat c.isLt []
  rw [List.append_nil] at hle2
  rw [h, show l.length = l.length + 0 from rfl, hfield, hle2, BitVec.ofNat_toNat, BitVec.setWidth_eq]

/-- The frame of a request passes the checks and gives the request back (R160). -/
theorem checkFrame_frame {r : Request} (htag : r.tag ≠ 0) (hlen : r.body.length ≤ 1024) :
    checkFrame r.frame = some { r with duplicate := false } := by
  have hcount : field2 r.frame 3 = r.body.length := by
    have h := field2_le2 r.body.length (by omega) (r.body ++ le2 (crc16 r.inner).toNat)
    rw [← List.append_assoc] at h
    exact h
  have hlength : r.frame.length = r.body.length + 7 := by
    rw [Request.frame_eq, List.length_cons, List.length_append, Request.inner_length, le2_length]
  have hcrc : BitVec.ofNat 16 (field2 r.frame (5 + r.body.length)) = crc16 r.inner :=
    field2_of_crc (crc16 r.inner) (0xA5 :: r.inner) _ (by rw [List.length_cons, Request.inner_length]; omega)
  have hinner : (r.frame.drop 1).take (4 + r.body.length) = r.inner := by
    rw [Request.frame_eq, List.drop_succ_cons, List.drop_zero, Nat.add_comm, ← Request.inner_length, List.take_left]
  have hbody : (r.frame.drop 5).take r.body.length = r.body := by
    show (r.body ++ le2 (crc16 r.inner).toNat).take r.body.length = r.body
    rw [List.take_left]
  unfold checkFrame
  rw [hcount]
  dsimp only
  rw [if_pos ⟨rfl, by omega, hlen, hlength, htag, by rw [hcrc, hinner]⟩, hbody]
  rfl

/-- Five bytes and what comes behind them. -/
theorem exists_five {l : List Byte} (h : 5 ≤ l.length) : ∃ a b c d e rest, l = a :: b :: c :: d :: e :: rest := by
  match l, h with
  | a :: b :: c :: d :: e :: rest, _ => exact ⟨a, b, c, d, e, rest, rfl⟩

/-- The bytes behind a body, two of them. -/
theorem drop_eq_pair {l : List Byte} {n : Nat} (h : l.length = n + 2) : l.drop n = [byteAt l n, byteAt l (n + 1)] := by
  have hlen : (l.drop n).length = 2 := by rw [List.length_drop]; omega
  obtain ⟨x, y, hxy⟩ := List.length_eq_two.mp hlen
  have hx : l[n]? = some x := by rw [← Nat.add_zero n, ← List.getElem?_drop, hxy]; rfl
  have hy : l[n + 1]? = some y := by rw [← List.getElem?_drop, hxy]; rfl
  rw [hxy, byteAt, byteAt, List.getD_eq_getElem?_getD, List.getD_eq_getElem?_getD, hx, hy]
  rfl

/-- What passes the checks is the frame of a request (R160). -/
theorem frame_of_checkFrame {bytes : List Byte} {r : Request} (h : checkFrame bytes = some r) :
    r.duplicate = false ∧ r.tag ≠ 0 ∧ r.body.length ≤ 1024 ∧ bytes = r.frame := by
  unfold checkFrame at h
  dsimp only at h
  split at h
  next hall =>
    obtain ⟨hstart, hfive, hmax, hlength, htag, hcrc⟩ := hall
    obtain rfl := Option.some.inj h
    obtain ⟨a, tag, code, low, high, rest, rfl⟩ := exists_five hfive
    have hcount : field2 (a :: tag :: code :: low :: high :: rest) 3 = low.toNat + 256 * high.toNat := rfl
    rw [hcount] at hmax hlength hcrc ⊢
    generalize hn : low.toNat + 256 * high.toNat = n at *
    have hrest : rest.length = n + 2 := by simpa using hlength
    have hbody : (rest.take n).length = n := by rw [List.length_take]; omega
    have hle2 : le2 n = [low, high] := hn ▸ le2_of_bytes low high
    have hpair := drop_eq_pair hrest
    have hlast : field2 (a :: tag :: code :: low :: high :: rest) (5 + n) =
        (byteAt rest n).toNat + 256 * (byteAt rest (n + 1)).toNat := by
      rw [Nat.add_comm]
      rfl
    refine ⟨rfl, htag, (show (rest.take n).length ≤ 1024 by rw [hbody]; exact hmax), ?_⟩
    have hinner : Request.inner { tag := tag, code := code, body := rest.take n, duplicate := false } =
        tag :: code :: low :: high :: rest.take n := by
      rw [Request.inner, hbody, hle2]
      rfl
    have hcrc' : (crc16 (tag :: code :: low :: high :: rest.take n)).toNat =
        (byteAt rest n).toNat + 256 * (byteAt rest (n + 1)).toNat := by
      have htake : ((a :: tag :: code :: low :: high :: rest).drop 1).take (4 + n) = tag :: code :: low :: high :: rest.take n := by
        rw [Nat.add_comm]
        rfl
      rw [htake, hlast] at hcrc
      have hx := (byteAt rest n).isLt
      have hy := (byteAt rest (n + 1)).isLt
      rw [← hcrc, BitVec.toNat_ofNat]
      omega
    have hframe : Request.frame { tag := tag, code := code, body := rest.take n, duplicate := false } =
        0xA5 :: tag :: code :: low :: high :: rest := by
      rw [Request.frame_eq, hinner, hcrc', le2_of_bytes, ← hpair]
      simp
    obtain rfl : a = 0xA5 := hstart
    exact hframe.symm
  next => cases h

/-- Settles O2: the frame of a request passes, and what passes is one. -/
theorem frameChecksAcceptExactlyFrames : Obligations.FrameChecksAcceptExactlyFrames := fun bytes r => by
  refine ⟨frame_of_checkFrame, fun ⟨hduplicate, htag, hlen, hbytes⟩ => ?_⟩
  rw [hbytes, checkFrame_frame htag hlen, ← hduplicate]

/-! ## WRITE (R146, R161, R162) -/

theorem Port.accept_of_lt {q : Port} (r : Request) (h : q.outstanding < 4) :
    q.accept r = ({ q with
      outstanding := q.outstanding + 1
      inbound := q.inbound ++ [{ r with duplicate := q.outstandingTags.contains r.tag }] } : Port).start :=
  if_pos h

theorem Port.accept_of_le {q : Port} (r : Request) (h : 4 ≤ q.outstanding) : q.accept r = { q with rejected := true } :=
  if_neg (Nat.not_lt.mpr h)

theorem Port.endWrite_bad {q : Port} {bytes : List Byte} (h : checkFrame bytes = none) :
    q.endWrite bytes = { q.ignore bytes.length with badFrame := true } := by
  unfold Port.endWrite
  rw [h]

theorem Port.endWrite_good {q : Port} {bytes : List Byte} {r : Request} (h : checkFrame bytes = some r) :
    q.endWrite bytes = (q.ignore bytes.length).accept r := by
  unfold Port.endWrite
  rw [h]

/-- A whole transaction, or the one in progress, is of the direction given and not ignored. -/
theorem txn_taken {q : Port} {t : Txn} {d : Direction} (h : q.txn = none ∨ q.txn = some t) (hd : t.direction = d)
    (hne : t ≠ .ignored d) : ∀ u, q.txn = some u → u.direction = d ∧ u ≠ .ignored d := by
  rintro u hu
  obtain hnone | hsome := h
  · rw [hnone] at hu
    cases hu
  · rw [hsome] at hu
    cases hu
    exact ⟨hd, hne⟩

theorem exec_write_taken {s : State} {p : PortId} (bytes : List Byte) (hlisten : s.portListens p = true)
    (htxn : (s.port p).txn = none ∨ (s.port p).txn = some .write) :
    exec (.write p bytes) s = .next (s.setPort p ((s.port p).endWrite bytes)) :=
  congrArg Host.Outcome.next (takeRise_taken bytes.length _ hlisten (txn_taken htxn rfl (by simp)))

/-- The rise of a transaction that is ignored, or of one that ends while a reset line is low. -/
theorem takeRise_ignored {s : State} {p : PortId} {d : Direction} {t : Txn} (clocked : Nat) (act : State → State)
    (ht : t.direction = d)
    (h : (s.port p).txn = some (.ignored d) ∨ (s.portListens p = false ∧ ((s.port p).txn = none ∨ (s.port p).txn = some t))) :
    takeRise p d clocked act s = s.setPort p ((s.port p).ignore clocked) := by
  obtain ⟨-, u, hu, hd⟩ | ⟨hs, -⟩ | ⟨-, hlisten, htaken⟩ := takeRise_cases p d clocked act s
  · obtain hi | ⟨-, hnone | hsome⟩ := h
    · rw [hi] at hu
      cases hu
      exact absurd rfl hd
    · rw [hnone] at hu
      cases hu
    · rw [hsome] at hu
      cases hu
      exact absurd ht hd
  · exact hs
  · obtain hi | ⟨hnot, -⟩ := h
    · exact absurd rfl (htaken _ hi).2
    · rw [hnot] at hlisten
      cases hlisten

theorem mem_outstandingTags {q : Port} {tag : Byte} :
    tag ∈ q.outstandingTags ↔
      (∃ r ∈ q.inbound, r.tag = tag) ∨ (∃ e, q.inExec = some e ∧ q.stale = false ∧ e.tag = tag)
        ∨ ∃ x ∈ q.outbound, x.kind = .reply ∧ x.tag = tag := by
  have hexec : tag ∈ (match q.inExec with | some e => if q.stale then [] else [e.tag] | none => []) ↔
      ∃ e, q.inExec = some e ∧ q.stale = false ∧ e.tag = tag := by
    cases q.inExec with
    | none => simp
    | some e => cases q.stale <;> simp [eq_comm]
  unfold Port.outstandingTags
  rw [List.mem_append, List.mem_append, or_assoc]
  refine or_congr (by simp) (or_congr hexec ?_)
  simp [and_assoc]

/-- Settles O3: the rise is taken or ignored, and a frame that is taken is accepted by its checks and the count. -/
theorem writeJudgesItsFrame : Obligations.WriteJudgesItsFrame := fun s p bytes => by
  refine ⟨fun hlisten htxn => ⟨fun r hr hlt => ?_, fun r hr hle => ?_, fun hbad => ?_⟩, fun tag => mem_outstandingTags,
    fun h => congrArg Host.Outcome.next (takeRise_ignored (t := .write) _ _ rfl h)⟩
  · rw [exec_write_taken bytes hlisten htxn, Port.endWrite_good hr, Port.accept_of_lt (q := (s.port p).ignore bytes.length) r hlt]
    rfl
  · rw [exec_write_taken bytes hlisten htxn, Port.endWrite_good hr, Port.accept_of_le (q := (s.port p).ignore bytes.length) r hle]
    rfl
  · rw [exec_write_taken bytes hlisten htxn, Port.endWrite_bad hbad]
    rfl

/-! ## The start of requests (R163) -/

theorem Port.start_busy {q : Port} (h : q.inExec.isSome = true) : q.start = q := if_pos h

theorem Port.start_free {q : Port} (h : q.inExec = none) : q.start = q.startFrom q.inbound := if_neg (by simp [h])

/-- What starts is decided by the list that starts, not by the list the port holds. -/
theorem Port.startFrom_setInbound (q : Port) (l k : List Request) : ({ q with inbound := k } : Port).startFrom l = q.startFrom l := by
  induction l generalizing q with
  | nil => rfl
  | cons r rest ih =>
    have hanswered : ∀ st, (({ q with inbound := k } : Port).joinReply r.tag st []).startFrom rest =
        (q.joinReply r.tag st []).startFrom rest := fun st => ih (q.joinReply r.tag st [])
    unfold Port.startFrom
    rw [hanswered, hanswered, hanswered]

/-- A request that its port answers is gone, and the next one starts. -/
theorem Port.start_answered {q : Port} (hexec : q.inExec = none) (rest : List Request) (tag : Byte) (st : Status) :
    (q.joinReply tag st []).startFrom rest = ({ q with inbound := rest }.joinReply tag st []).start := by
  rw [Port.start_free (q := Port.joinReply { q with inbound := rest } tag st []) hexec]
  exact (Port.startFrom_setInbound (q.joinReply tag st []) rest rest).symm

/-- Settles O4: one case of the start for each thing that the oldest request may be. -/
theorem requestsStartInOrder : Obligations.RequestsStartInOrder := fun q r rest => by
  refine ⟨Port.start_busy, fun hexec hnil => ?_, fun hexec hin => ⟨fun hdup => ?_, fun hdup hcode => ?_,
    fun cmd hdup hcode hblock => ?_, fun cmd b hdup hcode hblock => ⟨fun hclosed => ?_, fun hopen => ?_⟩⟩⟩
  · rw [Port.start_free hexec, hnil, Port.startFrom, ← hnil]
  all_goals rw [Port.start_free hexec, hin, Port.startFrom]
  · rw [if_pos hdup, Port.start_answered hexec]
  · simp only [hdup, hcode, Bool.false_eq_true, if_false]
    exact Port.start_answered hexec rest _ _
  · simp only [hdup, hcode, hblock, Bool.false_eq_true, if_false]
    rw [← hin]
  · simp only [hdup, hcode, hblock, Bool.false_eq_true, if_false]
    rw [if_neg (by simp [hclosed])]
    exact Port.start_answered hexec rest _ _
  · simp only [hdup, hcode, hblock, hopen, Bool.false_eq_true, if_false, if_true]

end Sys2Proof.Machine

/-! PROOF. The host ports: direction bytes, READ and READ_AGAIN, port reset (R145 to R151, R157), arrivals (R158, R169), and the
commands that a port executes itself (R155, R156, R159). -/

namespace Sys2Proof.Machine

set_option Elab.async false

/-! ## Direction bytes (R145, R147, R173) -/

section
variable {s : State} {p : PortId} {byte : Byte} {d : Direction}

theorem exec_directionByteEnd_taken (htxn : (s.port p).txn = none) (hlisten : s.portListens p = true)
    (hd : Direction.ofByte byte = some d) :
    exec (.directionByteEnd p { value := byte, begunLow := false }) s = .next (s.setPort p ((s.port p).begin d)) := by
  show execDirectionByteEnd p _ s = _
  unfold execDirectionByteEnd
  simp [htxn, hd, hlisten]

theorem exec_directionByteEnd_ignored (htxn : (s.port p).txn = none) {low : Bool} (hlow : low = true ∨ s.portListens p = false)
    (hd : Direction.ofByte byte = some d) :
    exec (.directionByteEnd p { value := byte, begunLow := low }) s =
      .next (s.setPort p { s.port p with txn := some (.ignored d), sdo := [] }) := by
  have hnot : ¬ (s.portListens p = true ∧ low = false) := by
    rintro ⟨hlisten, rfl⟩
    simp [hlisten] at hlow
  show execDirectionByteEnd p _ s = _
  unfold execDirectionByteEnd
  simp [htxn, hd, hnot, Port.directionSent]

theorem exec_directionByteEnd_other (htxn : (s.port p).txn = none) (low : Bool) (hd : Direction.ofByte byte = none) :
    exec (.directionByteEnd p { value := byte, begunLow := low }) s = .next (s.setPort p { s.port p with sdo := [] }) := by
  show execDirectionByteEnd p _ s = _
  unfold execDirectionByteEnd
  simp [htxn, hd, Port.directionSent]

/-- The four direction bytes (R173), and no other. -/
theorem Direction.ofByte_eq_none (h1 : byte ≠ 0x01) (h2 : byte ≠ 0x02) (h3 : byte ≠ 0x03) (h15 : byte ≠ 0x0F) :
    Direction.ofByte byte = none := by
  have hne : ∀ c : Byte, byte ≠ c → byte.toNat ≠ c.toNat := fun c h e => h (BitVec.eq_of_toNat_eq e)
  unfold Direction.ofByte
  split
  next h => exact absurd h (hne _ h1)
  next h => exact absurd h (hne _ h2)
  next h => exact absurd h (hne _ h3)
  next h => exact absurd h (hne _ h15)
  · rfl

/-- What the direction byte leaves on SDO: nothing sent yet (R145). -/
theorem execDirectionByteEnd_sdo (htxn : (s.port p).txn = none) {first : DirectionByte} {t : State}
    (h : exec (.directionByteEnd p first) s = .next t) : (t.port p).sdo = [] := by
  obtain ⟨-, hsome⟩ | ⟨d, -, -, ⟨-, -, hs⟩ | ⟨-, hs⟩⟩ | ⟨-, -, hs⟩ := execDirectionByteEnd_cases p first s
  · simp [htxn] at hsome
  all_goals
    obtain rfl := Host.Outcome.next.inj (h.symm.trans hs)
    rw [State.port_setPort, if_pos rfl]
  · rfl

end

/-- The status byte (R174), of a port within the outstanding limit. -/
theorem Port.statusByte_toNat {q : Port} (h : q.outstanding ≤ 4) (more : Bool) :
    (q.statusByte more).toNat = q.outstanding + (if more = true then 8 else 0) + (if q.rejected = true then 16 else 0)
      + (if q.badFrame = true then 32 else 0) + (if q.sessionOpen = true then 64 else 0) := by
  have hmod : q.outstanding % 8 = q.outstanding := Nat.mod_eq_of_lt (by omega)
  unfold Port.statusByte
  rw [BitVec.toNat_ofNat, hmod, Nat.mod_eq_of_lt]
  repeat' split
  all_goals omega

theorem Port.moreItems_readAgain (q : Port) : q.moreItems .readAgain = decide (1 ≤ q.outbound.length) := by
  unfold Port.moreItems
  cases q.outbound <;> rfl

/-- Settles O5: the direction byte begins its transaction, is ignored, or is none of the four. -/
theorem directionByteEndFixesWhatIsSent : Obligations.DirectionByteEndFixesWhatIsSent := fun s p htxn => by
  refine ⟨fun hlisten => ⟨exec_directionByteEnd_taken (d := .write) htxn hlisten rfl,
    exec_directionByteEnd_taken (d := .portReset) htxn hlisten rfl,
    fun hmax => ⟨⟨_, Port.statusByte_toNat hmax _, ?_⟩, ⟨_, Port.statusByte_toNat hmax _, ?_⟩⟩⟩, fun low hlow x hx => ?_,
    fun byte low h1 h2 h3 h15 => exec_directionByteEnd_other htxn low (Direction.ofByte_eq_none h1 h2 h3 h15),
    fun first t h => ⟨rfl, fun i => ?_⟩⟩
  · refine (exec_directionByteEnd_taken htxn hlisten (d := .read) rfl).trans (congrArg (fun x => Host.Outcome.next (s.setPort p
      { s.port p with txn := some (.reading .read ((s.port p).statusByte ((s.port p).moreItems .read)) x), sdo := [] })) ?_)
    unfold Port.pick
    cases (s.port p).outbound <;> rfl
  · rw [← Port.moreItems_readAgain]
    refine (exec_directionByteEnd_taken htxn hlisten (d := .readAgain) rfl).trans (congrArg (fun x => Host.Outcome.next
      (s.setPort p { s.port p with
        txn := some (.reading .readAgain ((s.port p).statusByte ((s.port p).moreItems .readAgain)) x), sdo := [] })) ?_)
    unfold Port.pick
    cases (s.port p).lastDelivered <;> rfl
  · have hd : Direction.ofByte x.1 = some x.2 := by
      simp only [List.mem_cons, List.not_mem_nil, or_false] at hx
      obtain rfl | rfl | rfl | rfl := hx <;> rfl
    exact exec_directionByteEnd_ignored htxn hlow hd
  · have hsdo := execDirectionByteEnd_sdo htxn h
    unfold State.sdOut
    cases (t.port p).txn with
    | none => simp [hsdo]
    | some u => cases u <;> simp [hsdo]

/-! ## READ and READ_AGAIN (R147, R148) -/

/-- The flags are cleared once the status byte was clocked. -/
theorem Port.reported_eq (q : Port) (n : Nat) :
    q.reported n = { q with rejected := q.rejected && n == 0, badFrame := q.badFrame && n == 0 } := by
  unfold Port.reported
  cases n <;> simp

section
variable {s : State} {p : PortId} {kind : ReadKind} {status : Byte} {x : Item} (n : Nat)

theorem Port.fixed_of_reading {q : Port} {kind' : ReadKind} (h : q.txn = some (.reading kind status x)) :
    q.fixed kind' = (status, x) := by
  unfold Port.fixed
  rw [h]

theorem exec_read_taken (hlisten : s.portListens p = true)
    (htxn : ∀ t, (s.port p).txn = some t → t.direction = .read ∧ t ≠ .ignored .read) :
    exec (.read p n) s = .next (s.setPort p ((s.port p).endRead ((s.port p).fixed .read) n)) :=
  congrArg Host.Outcome.next (takeRise_taken n _ hlisten htxn)

theorem exec_readAgain_taken (hlisten : s.portListens p = true)
    (htxn : ∀ t, (s.port p).txn = some t → t.direction = .readAgain ∧ t ≠ .ignored .readAgain) :
    exec (.readAgain p n) s = .next (s.setPort p ((s.port p).endReadAgain ((s.port p).fixed .readAgain) n)) :=
  congrArg Host.Outcome.next (takeRise_taken n _ hlisten htxn)

end

/-- The end of a READ or READ_AGAIN does not look at the transaction that its direction byte began, beyond what that fixed. -/
theorem Port.endReadAgain_begin (q : Port) (d : Direction) (x : Byte × Item) (n : Nat) :
    (q.begin d).endReadAgain x n = q.endReadAgain x n := by
  unfold Port.endReadAgain
  rw [Port.reported_eq, Port.reported_eq]
  rfl

theorem Port.endRead_begin (q : Port) (d : Direction) (x : Byte × Item) (n : Nat) :
    (q.begin d).endRead x n = q.endRead x n := by
  unfold Port.endRead
  rw [Port.endReadAgain_begin]

theorem Port.fixed_begin_read {q : Port} (h : q.txn = none) : q.fixed .read = (q.begin .read).fixed .read := by
  unfold Port.fixed
  rw [h]
  rfl

theorem Port.fixed_begin_readAgain {q : Port} (h : q.txn = none) : q.fixed .readAgain = (q.begin .readAgain).fixed .readAgain := by
  unfold Port.fixed
  rw [h]
  rfl

/-- A transaction that this direction byte began is taken at its rise. -/
theorem begun_taken {s : State} {p : PortId} (d : Direction) :
    ∀ t, ((s.setPort p ((s.port p).begin d)).port p).txn = some t → t.direction = d ∧ t ≠ .ignored d := by
  intro t ht
  rw [State.port_setPort, if_pos rfl] at ht
  obtain ⟨u, hu, hd, hne⟩ := Port.begin_txn (s.port p) d
  obtain rfl := Option.some.inj (ht.symm.trans hu)
  exact ⟨hd, hne⟩

theorem portListens_begin {s : State} {p : PortId} (d : Direction) :
    (s.setPort p ((s.port p).begin d)).portListens p = s.portListens p := by
  unfold State.portListens
  rw [State.port_setPort, if_pos rfl]
  rfl

/-- Settles O6: the rise is taken or ignored, and what is taken delivers by the bytes clocked. -/
theorem readDeliversWhatWasClocked : Obligations.ReadDeliversWhatWasClocked := fun s p n => by
  refine ⟨fun kind status x hlisten htxn => ⟨?_, ?_⟩,
    fun h => congrArg Host.Outcome.next (takeRise_ignored (t := .ignored .read) n _ rfl (.inl h)),
    fun h => congrArg Host.Outcome.next (takeRise_ignored (t := .ignored .readAgain) n _ rfl (.inl h)),
    fun htxn hlisten t => ⟨fun h => ?_, fun h => ?_⟩⟩
  · rintro rfl
    rw [exec_read_taken n hlisten (txn_taken (.inr htxn) rfl (by simp)), Port.fixed_of_reading htxn]
    unfold Port.endRead Port.endReadAgain
    rw [Port.reported_eq]
    rfl
  · rintro rfl
    rw [exec_readAgain_taken n hlisten (txn_taken (.inr htxn) rfl (by simp)), Port.fixed_of_reading htxn]
    unfold Port.endReadAgain
    rw [Port.reported_eq]
    rfl
  · obtain rfl := Host.Outcome.next.inj (h.symm.trans (exec_directionByteEnd_taken htxn hlisten (d := .read) rfl))
    rw [exec_read_taken n hlisten (by simp [htxn]),
      exec_read_taken n ((portListens_begin .read).trans hlisten) (begun_taken .read), State.port_setPort, if_pos rfl,
      Port.endRead_begin, ← Port.fixed_begin_read htxn, State.setPort_setPort]
  · obtain rfl := Host.Outcome.next.inj (h.symm.trans (exec_directionByteEnd_taken htxn hlisten (d := .readAgain) rfl))
    rw [exec_readAgain_taken n hlisten (by simp [htxn]),
      exec_readAgain_taken n ((portListens_begin .readAgain).trans hlisten) (begun_taken .readAgain), State.port_setPort,
      if_pos rfl, Port.endReadAgain_begin, ← Port.fixed_begin_readAgain htxn, State.setPort_setPort]

/-! ## Port reset (R151, R157) -/

/-- What a port reset leaves of the port, but for the transaction in progress. -/
def Port.emptied (q : Port) : Port :=
  { q with
    sessionOpen := false, inbound := [], outbound := [], outstanding := 0, rejected := false, badFrame := false
    lastDelivered := none, nextNumber := 0, lostMark := false, stale := q.inExec.isSome }

/-- The announcements after a port reset: those of an open session's end join them. -/
def State.announcedBy (s : State) (p : PortId) : List Announcement :=
  if (s.port p).sessionOpen then
    s.announcements ++ announcedBlocks.map fun b => { block := b, port := p, session := (s.port p).sessionNo }
  else s.announcements

theorem endSession_eq (p : PortId) (s : State) :
    s.endSession p = ({ s with
      announcements := s.announcements ++
        announcedBlocks.map fun b => { block := b, port := p, session := (s.port p).sessionNo } } : State).setPort p
      { s.port p with sessionOpen := false } := rfl

theorem portReset_eq (p : PortId) (s : State) :
    portReset p s = ({ s with announcements := s.announcedBy p } : State).setPort p
      { (s.port p).emptied with txn := (s.port p).txn.map Txn.ended } := by
  unfold portReset State.announcedBy Port.emptied
  cases hopen : (s.port p).sessionOpen with
  | false =>
    simp only [Bool.false_eq_true, if_false, hopen]
  | true =>
    simp only [if_true]
    rw [endSession_eq, State.port_setPort, if_pos rfl, State.setPort_setPort]

/-- Settles O7: the reset's effect, then the end of its transaction or the low line. -/
theorem portResetEmptiesThePort : Obligations.PortResetEmptiesThePort := fun s p => by
  refine ⟨fun hlisten htxn => ?_,
    fun h => congrArg Host.Outcome.next (takeRise_ignored (t := .portReset) 0 _ rfl (.inl h)), fun hlow => ?_, rfl⟩
  · refine congrArg Host.Outcome.next ((takeRise_taken 0 _ hlisten (txn_taken htxn rfl (by simp))).trans ?_)
    dsimp only
    rw [portReset_eq, State.port_setPort, if_pos rfl, State.setPort_setPort]
    rfl
  · show execPrstFall p s = _
    unfold execPrstFall
    rw [hlow, if_neg Bool.false_ne_true]
    dsimp only
    rw [portReset_eq, State.port_setPort, if_pos rfl, State.setPort_setPort]
    cases (s.port p).txn with
    | none => rfl
    | some t =>
      cases t with
      | write | portReset | ignored => rfl
      | reading kind st x => cases kind <;> rfl

/-! ## Arrivals (R158, R169) -/

/-- Settles O8: the stale mark decides whether the reply joins the queue. -/
theorem replyArrivalEndsTheRequest : Obligations.ReplyArrivalEndsTheRequest := fun s p st body rest e hinbox hexec => by
  have harrives : exec (.replyArrival p) s = .next (s.setPort p ({ s.port p with inbox := rest }.takeReply st body)) := by
    show execReplyArrival p s = _
    unfold execReplyArrival
    rw [hinbox]
  rw [harrives]
  unfold Port.takeReply
  simp only [hexec]
  refine ⟨fun hstale => ?_, fun hstale => ?_⟩
  · rw [if_neg (by simp [hstale])]
    rfl
  · rw [if_pos hstale]

/-- Settles O9. -/
theorem noticeArrivalQueuesOrDrops : Obligations.NoticeArrivalQueuesOrDrops := fun s p x rest hinbox => by
  have harrives : exec (.noticeArrival p) s = .next (s.setPort p ({ s.port p with inbox := rest }.takeNotice x)) := by
    show execNoticeArrival p s = _
    unfold execNoticeArrival
    rw [hinbox]
  refine harrives.trans (congrArg (fun q => Host.Outcome.next (s.setPort p q)) ?_)
  unfold Port.takeNotice
  by_cases hopen : (s.port p).sessionOpen = false
  · exact (if_pos (by simp [hopen])).trans (if_pos hopen).symm
  · exact (if_neg (by simp [hopen])).trans (if_neg hopen).symm

/-! ## The commands that a port executes itself (R155, R156, R159) -/

theorem ownCommand_next {cmd : Command} {p : PortId} {s : State} {r : Request} {rest : List Request}
    (act : List Byte → State → State × Answer) (hexec : (s.port p).inExec = none) (hin : (s.port p).inbound = r :: rest)
    (hdup : r.duplicate = false) (hcmd : Command.ofCode r.code = some cmd) :
    ownCommand cmd p act s =
      (let x := act r.body (s.setPort p { s.port p with inbound := rest })
       x.1.setPort p ((x.1.port p).joinReply r.tag x.2.status x.2.body).start) := by
  have hown : (s.port p).ownRequest cmd = some (r, rest) := by
    unfold Port.ownRequest
    rw [hexec, hin]
    exact if_pos ⟨hdup, hcmd⟩
  unfold ownCommand
  rw [hown]

/-- What the port answers when its command changes nothing but the port itself. -/
theorem joinReply_setPort (s : State) (p : PortId) (q q' : Port) (tag : Byte) (a : Answer) :
    ((s.setPort p q).setPort p q').setPort p ((((s.setPort p q).setPort p q').port p).joinReply tag a.status a.body).start =
      s.setPort p (q'.joinReply tag a.status a.body).start := by
  rw [State.setPort_setPort, State.setPort_setPort, State.port_setPort, if_pos rfl]

theorem answered_setPort (s : State) (p : PortId) (q : Port) (tag : Byte) (a : Answer) :
    (s.setPort p q).setPort p (((s.setPort p q).port p).joinReply tag a.status a.body).start =
      s.setPort p (q.joinReply tag a.status a.body).start := by
  rw [State.setPort_setPort, State.port_setPort, if_pos rfl]

theorem length_ne_zero_iff (l : List Byte) : l.length ≠ 0 ↔ l ≠ [] := not_congr List.length_eq_zero_iff

theorem PortClass.code_bytes (c : PortClass) : u8 c.code = [if c = PortClass.control then 1 else 0] := by
  cases c <;> rfl

theorem flag_bytes (b : Bool) : flag b = [if b = true then 1 else 0] := by
  cases b <;> rfl

/-- Settles O10: the command's effect on the port alone, and its answer. -/
theorem portExecutesItsOwnCommands : Obligations.PortExecutesItsOwnCommands := fun s p r rest hexec hin hdup => by
  have hport : ∀ q, (s.setPort p q).port p = q := fun q => by rw [State.port_setPort, if_pos rfl]
  refine ⟨fun hcmd => congrArg Host.Outcome.next ?_, fun hcmd => congrArg Host.Outcome.next ?_,
    fun hcmd => congrArg Host.Outcome.next ?_⟩
  all_goals rw [ownCommand_next _ hexec hin hdup hcmd]
  · unfold openSession
    simp only [hport, length_ne_zero_iff]
    split
    · exact answered_setPort s p _ r.tag _
    · split
      · exact answered_setPort s p _ r.tag _
      · rw [PortClass.code_bytes]
        exact joinReply_setPort s p _ _ r.tag _
  · unfold closeSession
    simp only [hport, length_ne_zero_iff]
    split
    · exact answered_setPort s p _ r.tag _
    · split
      · rw [endSession_eq, hport]
        exact joinReply_setPort
          { s with
            announcements := s.announcements ++
              announcedBlocks.map fun b => { block := b, port := p, session := (s.port p).sessionNo } }
          p { s.port p with inbound := rest } { s.port p with inbound := rest, sessionOpen := false } r.tag
          { status := .done, body := [] }
      · exact answered_setPort s p _ r.tag _
  · unfold deviceInfo
    simp only [hport, length_ne_zero_iff]
    split
    · exact answered_setPort s p _ r.tag _
    · rw [PortClass.code_bytes, flag_bytes]
      exact answered_setPort s p _ r.tag _

end Sys2Proof.Machine

/-! PROOF. Chip reset and its release (R153, R37, R118, R152); what holds of every request at its block: the session check (R154)
and the checks that come first (R3, R42, R165, R172). -/

namespace Sys2Proof.Machine

set_option Elab.async false

/-! ## Chip reset (R153) -/

theorem port_chipReset (straps : BitVec 4) (s : State) (p : PortId) :
    (chipReset straps s).port p =
      { Port.afterReset (classOf straps p) (s.port p).prstLow with txn := (s.port p).txn.map Txn.ended } :=
  State.port_eachPort s (fun p q => { Port.afterReset (classOf straps p) q.prstLow with txn := q.txn.map Txn.ended }) p

theorem slot_chipReset (straps : BitVec 4) (s : State) (n : SlotId) : (chipReset straps s).slot n = Slot.free :=
  Vector.getElem_replicate n.isLt

theorem seq_chipReset (straps : BitVec 4) (s : State) (n : SeqId) : (chipReset straps s).seq n = Sequence.empty :=
  Vector.getElem_replicate n.isLt

theorem light_chipReset (straps : BitVec 4) (s : State) (c : ChannelId) : (chipReset straps s).light c = Light.afterReset :=
  Vector.getElem_replicate c.isLt

/-- Settles O11: the reset state, but for the ports, whose reset lines and transactions the hosts drive. -/
theorem chipResetLeaves : Obligations.ChipResetLeaves := fun s straps => by
  refine ⟨chipReset straps s, rfl, rfl, rfl, fun p => port_chipReset straps s p, fun n => slot_chipReset straps s n, rfl, rfl, rfl,
    fun q => ?_, rfl, rfl, rfl, rfl, rfl, rfl, rfl, rfl, rfl, rfl, rfl, rfl, rfl, rfl, rfl, rfl, rfl, fun x => ?_, rfl, rfl, rfl,
    rfl, rfl, fun c => light_chipReset straps s c, rfl, rfl, rfl, rfl⟩
  · rw [seq_chipReset]
    exact ⟨rfl, rfl, rfl, rfl, rfl⟩
  · cases x <;> rfl

/-- Settles O12: the classes are sampled, the link is released, and the scan begins. -/
theorem resetReleaseStartsThePart : Obligations.ResetReleaseStartsThePart := fun s straps drvRdy trgA trgB hlow => by
  refine ⟨resetRelease straps drvRdy trgA trgB s, congrArg Host.Outcome.next (if_pos hlow), rfl,
    fun p => State.port_eachPort s (fun p q => { q with cls := classOf straps p }) p, rfl, ?_, ?_, ?_, ?_, ?_, ?_, ?_, rfl, rfl, rfl, rfl, rfl, rfl, rfl, rfl, rfl, rfl,
    rfl, rfl, rfl⟩
  all_goals cases drvRdy <;> rfl

/-! ## The row of a command (R172) -/

/-- What a block does with a request of the command, as the model's rows give it; CANCEL and the ports' own commands apart. -/
def actionOf (p : PortId) : Command → List Byte → State → State × Answer
  | .openSession | .closeSession | .deviceInfo | .cancel => fun _ s => refuse .unknownCommand s
  | .allocateSlot => allocateSlot p | .openFill => openFill p | .writePlane => writePlane p | .closeFill => closeFill p
  | .abandonFill => abandonFill p | .freeSlot => freeSlot p | .slotStatus => slotStatus
  | .libraryStatus => libraryStatus | .libraryEntry => libraryEntry | .rescanLibrary => rescanLibrary p
  | .loadPlanes => loadPlanes p | .cancelLoad => cancelLoad p
  | .createSequence => createSequence p | .appendSteps => appendSteps p | .removeSteps => removeSteps p
  | .setRepeat => setRepeat p | .sealSequence => sealSequence p | .unsealSequence => unsealSequence p
  | .deleteSequence => deleteSequence p | .sequenceStatus => sequenceStatus | .readSteps => readSteps
  | .submit => submit p | .requestDirect => requestDirect p | .queueStatus => queueStatus
  | .setHoldLevel => setHoldLevel p | .setFallback => setFallback p | .clearHalt => clearHalt p
  | .resetPlayer => resetPlayer p | .playerStatus => playerStatus
  | .configureTriggers => configureTriggers p | .trigger => softTrigger p | .triggerStatus => triggerStatus
  | .configureLights => configureLights p | .linkStatus => linkStatus
  | .acceptDirect => acceptDirect p | .showPlane => showPlane p | .releaseDirect => releaseDirect p

/-- What a block does after the reply of a request that was DONE. -/
def followOf (p : PortId) (s : State) : Command → State → State
  | .loadPlanes | .cancelLoad => startHead
  | .submit | .requestDirect => askSelect
  | .setHoldLevel | .clearHalt | .acceptDirect => select
  | .showPlane => selectForHead
  | .releaseDirect => if s.queue.any (Entry.isDirect p) then id else select
  | _ => id

/-- Every row of a request at its block serves it, but for the CANCEL that the queue may pass on. -/
theorem exec_row {s : State} {p : PortId} {cmd : Command} {b : Block} (hb : cmd.block = some b) (hne : cmd ≠ .cancel) :
    exec (cmd.row p) s = .next (serveAt cmd (.atBlock b) p (actionOf p cmd) (followOf p s cmd) s) := by
  cases cmd with
  | openSession | closeSession | deviceInfo => cases hb
  | cancel => exact absurd rfl hne
  | _ =>
    cases hb
    rfl

theorem rowAt_atBlock {p : PortId} {cmd : Command} {b : Block} {i : Instr} (h : rowAt p cmd (.atBlock b) = some i) :
    cmd.block = some b ∧ i = cmd.row p := by
  change (if cmd.block = some b then some (cmd.row p) else none) = some i at h
  split at h
  next hb => exact ⟨hb, (Option.some.inj h).symm⟩
  · cases h

theorem rowAt_passedCancel {p : PortId} {cmd : Command} {i : Instr} (h : rowAt p cmd .passedCancel = some i) :
    cmd = .cancel ∧ i = .cancelContext p := by
  change (if cmd = .cancel then some (.cancelContext p) else none) = some i at h
  split at h
  next hcmd => exact ⟨hcmd, (Option.some.inj h).symm⟩
  · cases h

theorem rowAt_passedFallback {p : PortId} {cmd : Command} {i : Instr} (h : rowAt p cmd .passedFallback = some i) :
    cmd = .cancel ∧ i = .cancelFallback p := by
  change (if cmd = .cancel then some (.cancelFallback p) else none) = some i at h
  split at h
  next hcmd => exact ⟨hcmd, (Option.some.inj h).symm⟩
  · cases h

/-! ## The session check (R154) -/

section
variable {s : State} {p : PortId} {cmd : Command} {e : InExec}

theorem request_of_inExec (he : (s.port p).inExec = some e) (hcode : Command.ofCode e.code = some cmd)
    (hmay : s.mayTake p e = true) : s.request p cmd e.place = some e := by
  unfold State.request
  rw [he]
  exact if_pos ⟨hcode, rfl, hmay⟩

theorem sessionEnded_of (h : (s.port p).sessionOpen = false ∨ (s.port p).sessionNo ≠ e.session) : s.sessionEnded p e = true := by
  unfold State.sessionEnded
  obtain h | h := h <;> simp [h]

theorem serveAt_ended {w : Place} (hreq : s.request p cmd w = some e) (hended : s.sessionEnded p e = true)
    (act : List Byte → State → State × Answer) (follow : State → State) :
    serveAt cmd w p act follow s = s.reply p { status := .noSession, body := [] } := by
  unfold serveAt
  rw [hreq]
  exact if_pos hended

theorem cancelAtQueue_ended (hreq : s.request p .cancel (.atBlock .queue) = some e) (hended : s.sessionEnded p e = true) :
    cancelAtQueue p s = s.reply p { status := .noSession, body := [] } := by
  unfold cancelAtQueue
  rw [hreq]
  exact if_pos hended

end

/-- Settles O13: the session check comes before the action, at each place where a request may stand. -/
theorem lateRequestsAnsweredNoSession : Obligations.LateRequestsAnsweredNoSession := by
  intro s p cmd e i he hcode hrow hmay hlate
  have hreq := request_of_inExec he hcode hmay
  have hended := sessionEnded_of hlate
  generalize e.place = w at hrow hreq
  cases w with
  | atBlock b =>
    obtain ⟨hb, rfl⟩ := rowAt_atBlock hrow
    by_cases hcancel : cmd = .cancel
    · subst hcancel
      obtain rfl : Block.queue = b := Option.some.inj hb
      exact congrArg Host.Outcome.next (cancelAtQueue_ended hreq hended)
    · rw [exec_row hb hcancel, serveAt_ended hreq hended]
  | passedCancel =>
    obtain ⟨rfl, rfl⟩ := rowAt_passedCancel hrow
    exact congrArg Host.Outcome.next (serveAt_ended hreq hended _ _)
  | passedFallback =>
    obtain ⟨rfl, rfl⟩ := rowAt_passedFallback hrow
    exact congrArg Host.Outcome.next (serveAt_ended hreq hended _ _)
  | answered => cases hrow

/-! ## The body's length and the port's class (R165, R172) -/

/-- The length of the body of a command whose body has one length (the command catalogue). -/
def bodyLengthOf : Command → Option Nat
  | .libraryStatus | .rescanLibrary | .queueStatus | .clearHalt | .resetPlayer | .playerStatus | .trigger | .triggerStatus
  | .linkStatus | .acceptDirect | .releaseDirect => some 0
  | .sealSequence | .unsealSequence | .deleteSequence | .requestDirect | .setHoldLevel | .setFallback => some 1
  | .allocateSlot | .openFill | .abandonFill | .freeSlot | .libraryEntry | .cancelLoad | .removeSteps | .sequenceStatus => some 2
  | .slotStatus | .createSequence | .setRepeat | .readSteps | .cancel => some 3
  | .closeFill | .submit | .configureTriggers => some 6
  | .showPlane => some 7
  | .configureLights => some 8
  | .openSession | .closeSession | .deviceInfo | .writePlane | .loadPlanes | .appendSteps => none

section
variable {s : State} {p : PortId} {cmd : Command} {body : List Byte}

theorem action_of_length_ne {len : Nat} (hlen : bodyLengthOf cmd = some len) (hne : cmd ≠ .cancel) (h : body.length ≠ len) :
    actionOf p cmd body s = refuse .badLength s := by
  cases cmd with
  | cancel => exact absurd rfl hne
  | openSession | closeSession | deviceInfo | writePlane | loadPlanes | appendSteps => cases hlen
  | _ =>
    simp only [actionOf]
    exact ofLength_of_length_ne (mt (·.trans (Option.some.inj hlen)) h)

theorem action_of_ordinary
    (hcmd : cmd ∈ [.rescanLibrary, .setHoldLevel, .setFallback, .clearHalt, .resetPlayer, .configureTriggers, .configureLights])
    (hlen : bodyLengthOf cmd = some body.length) (hcls : (s.port p).cls = .ordinary) :
    actionOf p cmd body s = refuse .notPermitted s := by
  simp only [List.mem_cons, List.not_mem_nil, or_false] at hcmd
  obtain rfl | rfl | rfl | rfl | rfl | rfl | rfl := hcmd
  all_goals simp only [actionOf]
  all_goals exact (ofLength_of_length_eq (Option.some.inj hlen).symm).trans (controlOnly_of_ordinary hcls)

/-! ## Slot and sequence numbers and their owners (R3, R42) -/

theorem ownedSlot_of_gt {number : Nat} (act : SlotId → State → State × Answer) (h : 447 < number) :
    ownedSlot p number act s = refuse .badArgument s := by
  unfold ownedSlot slotOf
  rw [dif_neg (by omega)]

theorem ownedSlot_of_not_owner {n : SlotId} (act : SlotId → State → State × Answer) (h : (s.slot n).owner ≠ some p) :
    ownedSlot p n.val act s = refuse .notOwner s := by
  unfold ownedSlot
  simp only [slotOf_val, if_neg h]

theorem action_ownedSlot (hcmd : cmd ∈ [.openFill, .closeFill, .abandonFill, .freeSlot])
    (hlen : bodyLengthOf cmd = some body.length) :
    ∃ act, actionOf p cmd body s = ownedSlot p (field2 body 0) act s := by
  simp only [List.mem_cons, List.not_mem_nil, or_false] at hcmd
  obtain rfl | rfl | rfl | rfl := hcmd
  all_goals simp only [actionOf]
  all_goals exact ⟨_, ofLength_of_length_eq (Option.some.inj hlen).symm⟩

theorem action_ownedSeq (hcmd : cmd ∈ [.removeSteps, .setRepeat, .sealSequence, .unsealSequence, .deleteSequence])
    (hlen : bodyLengthOf cmd = some body.length) :
    ∃ act, actionOf p cmd body s = ownedSeq p (field1 body 0) act s := by
  simp only [List.mem_cons, List.not_mem_nil, or_false] at hcmd
  obtain rfl | rfl | rfl | rfl | rfl := hcmd
  all_goals simp only [actionOf]
  all_goals exact ⟨_, ofLength_of_length_eq (Option.some.inj hlen).symm⟩

theorem cancelLoad_of_gt (hlen : body.length = 2) (h : 447 < field2 body 0) : cancelLoad p body s = refuse .badArgument s := by
  rw [cancelLoad, ofLength_of_length_eq hlen, slotOf, dif_neg (by omega)]

theorem cancelLoad_of_not_owner {n : SlotId} (hlen : body.length = 2) (hn : field2 body 0 = n.val)
    (hown : (s.slot n).owner ≠ some p) (hjobs : ∀ j ∈ s.lib.jobs, j.slot ≠ n) :
    cancelLoad p body s = refuse .notOwner s := by
  have hnone : s.lib.jobs.find? (fun j => j.slot == n) = none := by
    simpa only [List.find?_eq_none, beq_iff_eq] using hjobs
  rw [cancelLoad, ofLength_of_length_eq hlen, hn]
  simp only [slotOf_val, hnone, if_neg hown]

theorem loadPlanes_of_scanning (hlen : 1 ≤ body.length / 4 ∧ body.length / 4 ≤ 8 ∧ body.length % 4 = 0)
    (hlib : s.lib.state = .scanning) : loadPlanes p body s = refuse .retry s := by
  refine (if_pos hlen).trans ?_
  rw [hlib]

theorem loadPlanes_of_no_image (hlen : 1 ≤ body.length / 4 ∧ body.length / 4 ≤ 8 ∧ body.length % 4 = 0)
    (hlib : s.lib.state = .absent ∨ s.lib.state = .invalid) : loadPlanes p body s = refuse .libraryUnavailable s := by
  refine (if_pos hlen).trans ?_
  obtain hlib | hlib := hlib
  · rw [hlib]
  · rw [hlib]

theorem writePlane_of_length (act : ¬ (22 ≤ body.length ∧ body.length ≤ 1014 ∧ body.length % 16 = 6)) :
    writePlane p body s = refuse .badLength s :=
  if_neg (by omega)

theorem writePlane_ownedSlot (h : 22 ≤ body.length ∧ body.length ≤ 1014 ∧ body.length % 16 = 6) :
    ∃ act, writePlane p body s = ownedSlot p (field2 body 0) act s :=
  ⟨_, if_pos (by omega)⟩

end

/-! ## The checks that come first -/

theorem exec_row_refused {s : State} {p : PortId} {cmd : Command} {b : Block} {i : Instr} {body : List Byte} {st : Status}
    (hrow : rowAt p cmd (.atBlock b) = some i) (hask : Asked s p cmd (.atBlock b) body) (hne : cmd ≠ .cancel)
    (hst : st ≠ .done) (h : actionOf p cmd body s = refuse st s) :
    exec i s = .next (s.reply p { status := st, body := [] }) := by
  obtain ⟨hb, rfl⟩ := rowAt_atBlock hrow
  rw [exec_row hb hne, serveAt_asked hask, h]
  exact congrArg _ (if_neg hst)

/-- Settles O15: each check refuses in its turn. -/
theorem requestsAreCheckedInOrder : Obligations.RequestsAreCheckedInOrder := by
  intro s p cmd b i body hrow hask refused slotChecked sequenceChecked
  have hrefused : ∀ st, cmd ≠ .cancel → st ≠ .done → actionOf p cmd body s = refuse st s → refused st :=
    fun st hne hst h => exec_row_refused hrow hask hne hst h
  have hslot : cmd ≠ .cancel → (∃ act, actionOf p cmd body s = ownedSlot p (field2 body 0) act s) → slotChecked := by
    rintro hne ⟨act, hact⟩
    refine ⟨fun hgt => hrefused _ hne nofun (hact.trans (ownedSlot_of_gt act hgt)), fun n more hbody hown _ => ?_⟩
    rw [hbody, field2_slotBytes, ← hbody] at hact
    exact hrefused _ hne nofun (hact.trans (ownedSlot_of_not_owner act hown))
  have hseq : cmd ≠ .cancel → (∃ act, actionOf p cmd body s = ownedSeq p (field1 body 0) act s) → sequenceChecked := by
    rintro hne ⟨act, hact⟩ x more rfl
    refine ⟨fun hge => hrefused _ hne nofun (hact.trans (ownedSeq_of_le act hge)), fun n hx hown => ?_⟩
    subst hx
    rw [field1_seqId] at hact
    exact hrefused _ hne nofun (hact.trans (ownedSeq_of_not_owner act hown))
  refine ⟨fun len hmem => ?_, ?_, ?_, ?_⟩
  · have hlen : bodyLengthOf cmd = some len := (show ∀ x ∈ _, bodyLengthOf x.1 = some x.2 from by decide) _ hmem
    refine ⟨fun hne => ?_, fun heq hcls hcmd => ?_, fun heq hcmd => ?_, fun heq hcmd => ?_⟩
    · by_cases hcancel : cmd = .cancel
      · subst hcancel
        obtain rfl := Option.some.inj hlen
        obtain ⟨hb, rfl⟩ := rowAt_atBlock hrow
        obtain rfl : Block.queue = b := Option.some.inj hb
        refine (exec_cancel_asked hask).trans ?_
        rw [cancelChecks, if_pos hne]
        rfl
      · exact hrefused _ hcancel nofun (action_of_length_ne hlen hcancel hne)
    · exact hrefused _ (by rintro rfl; simp at hcmd) nofun (action_of_ordinary hcmd (heq ▸ hlen) hcls)
    · by_cases hcancel : cmd = .cancelLoad
      · subst hcancel
        obtain rfl := Option.some.inj hlen
        refine ⟨fun hgt => hrefused _ nofun nofun (cancelLoad_of_gt heq hgt), fun n more hbody hown hjobs => ?_⟩
        have hn : field2 body 0 = n.val := by rw [hbody, field2_slotBytes]
        exact hrefused _ nofun nofun (cancelLoad_of_not_owner heq hn hown (hjobs rfl))
      · exact hslot (by rintro rfl; simp at hcmd) (action_ownedSlot (by simpa [hcancel] using hcmd) (heq ▸ hlen))
    · exact hseq (by rintro rfl; simp at hcmd) (action_ownedSeq hcmd (heq ▸ hlen))
  · rintro rfl
    split
    next h => exact hslot nofun (writePlane_ownedSlot h)
    next h => exact hrefused _ nofun nofun (writePlane_of_length h)
  · rintro rfl
    split
    next h => exact hseq nofun ⟨_, if_pos h⟩
    next h => exact hrefused _ nofun nofun (if_neg h)
  · rintro rfl
    refine ⟨fun h => hrefused _ nofun nofun (if_neg (by omega)), fun hmin hmax hmod => ?_⟩
    have hlen : 1 ≤ body.length / 4 ∧ body.length / 4 ≤ 8 ∧ body.length % 4 = 0 := by omega
    refine ⟨fun hlib => hrefused _ nofun nofun (loadPlanes_of_scanning hlen hlib),
      fun hlib => hrefused _ nofun nofun (loadPlanes_of_no_image hlen hlib)⟩

end Sys2Proof.Machine

/-! PROOF. Every request at its block is answered once, and a refusal changes nothing else (R164, R165). -/

namespace Sys2Proof.Machine

set_option Elab.async false

/-! ## Settled answers -/

/-- An action is DONE, having handed the ports nothing but notices; or it is refused, with nothing changed. -/
def Settles (s : State) (r : State × Answer) : Prop :=
  (r.2.status = .done ∧ NoticesOnly s r.1) ∨ (r.2.status ≠ .done ∧ r.2.status ≠ .checkFailed ∧ r.1 = s)

section
variable {s t : State} {p : PortId} {body : List Byte}

theorem Settles.refuse {st : Status} (hdone : st ≠ .done) (hcheck : st ≠ .checkFailed) : Settles s (refuse st s) :=
  .inr ⟨hdone, hcheck, rfl⟩

theorem Settles.refuseWith {st : Status} {b : List Byte} (hdone : st ≠ .done) (hcheck : st ≠ .checkFailed) :
    Settles s (refuseWith st b s) :=
  .inr ⟨hdone, hcheck, rfl⟩

theorem Settles.done {b : List Byte} (h : NoticesOnly s t) : Settles s (done b t) := .inl ⟨rfl, h⟩

/-- A request that is DONE without reaching the ports. -/
theorem Settles.done_ports {b : List Byte} (h : t.ports = s.ports) : Settles s (Machine.done b t) := .done (.of_ports h)

theorem Settles.ofLength {n : Nat} {act : List Byte → State → State × Answer} (h : Settles s (act body s)) :
    Settles s (ofLength n act body s) := by
  unfold Machine.ofLength
  split
  · exact h
  · exact .refuse nofun nofun

theorem Settles.controlOnly {act : List Byte → State → State × Answer} (h : Settles s (act body s)) :
    Settles s (controlOnly p act body s) := by
  unfold Machine.controlOnly
  split
  · exact h
  · exact .refuse nofun nofun

theorem Settles.ownedSlot {number : Nat} {act : SlotId → State → State × Answer} (h : ∀ n, Settles s (act n s)) :
    Settles s (ownedSlot p number act s) := by
  unfold Machine.ownedSlot
  split
  · exact .refuse nofun nofun
  · split
    · exact h _
    · exact .refuse nofun nofun

theorem Settles.ownedSeq {number : Nat} {act : SeqId → State → State × Answer} (h : ∀ n, Settles s (act n s)) :
    Settles s (ownedSeq p number act s) := by
  unfold Machine.ownedSeq
  split
  · exact .refuse nofun nofun
  · split
    · exact h _
    · exact .refuse nofun nofun

theorem Settles.openSeq {number : Nat} {act : SeqId → State → State × Answer} (h : ∀ n, Settles s (act n s)) :
    Settles s (openSeq p number act s) :=
  .ownedSeq fun n => by
    split
    · exact h n
    · exact .refuse nofun nofun

/-! ## The plane store -/

theorem claimFree_settles (n : SlotId) : Settles s (claimFree p n s) := .done_ports rfl

theorem allocateSlot_settles : Settles s (allocateSlot p body s) := .ofLength (by
  split
  · split
    · exact claimFree_settles _
    · exact .refuse nofun nofun
  · split
    · exact .refuse nofun nofun
    · split
      · exact claimFree_settles _
      · exact .refuse nofun nofun)

theorem openFill_settles : Settles s (openFill p body s) := .ofLength (.ownedSlot fun n => by
  dsimp only
  split
  · exact .done_ports rfl
  · split
    · exact .refuse nofun nofun
    · exact .done_ports rfl
  · exact .refuse nofun nofun)

theorem writePlane_settles : Settles s (writePlane p body s) := by
  unfold writePlane
  dsimp only
  split
  · refine .ownedSlot fun n => ?_
    split
    · split
      · exact .done_ports rfl
      · exact .refuseWith nofun nofun
    · exact .refuse nofun nofun
  · exact .refuse nofun nofun

theorem abandonFill_settles : Settles s (abandonFill p body s) := .ofLength (.ownedSlot fun n => by
  split
  · exact .done_ports rfl
  · exact .refuse nofun nofun)

theorem freeSlot_settles : Settles s (freeSlot p body s) := .ofLength (.ownedSlot fun n => by
  split
  · exact .refuse nofun nofun
  · split
    · exact .refuse nofun nofun
    · exact .done_ports rfl
  · exact .done_ports rfl)

theorem slotStatus_settles : Settles s (slotStatus body s) := .ofLength (by
  dsimp only
  split
  · exact .done_ports rfl
  · exact .refuse nofun nofun)

/-- CLOSE_FILL is settled too, or leaves its slot HELD with CHECK_FAILED (R8). -/
theorem closeFill_settles : Settles s (closeFill p body s) ∨
    ∃ n b, slotOf (field2 body 0) = some n
      ∧ closeFill p body s = refuseWith .checkFailed b (s.setSlot n ((s.slot n).heldWith .checkFailed)) := by
  by_cases hlen : body.length = 6
  · rw [closeFill, ofLength_of_length_eq hlen]
    unfold ownedSlot
    split
    · exact .inl (.refuse nofun nofun)
    next n hn =>
      split
      · dsimp only
        split
        · split
          · split
            · exact .inl (.done_ports rfl)
            · exact .inr ⟨n, _, hn, rfl⟩
          · exact .inl (.refuse nofun nofun)
        · exact .inl (.refuse nofun nofun)
      · exact .inl (.refuse nofun nofun)
  · rw [closeFill, ofLength_of_length_ne hlen]
    exact .inl (.refuse nofun nofun)

/-! ## The library loader -/

theorem libraryStatus_settles : Settles s (libraryStatus body s) := .ofLength (by
  split
  · exact .done_ports rfl
  · exact .refuseWith nofun nofun)

theorem libraryEntry_settles : Settles s (libraryEntry body s) := .ofLength (by
  split
  · exact .refuse nofun nofun
  · split
    · exact .refuse nofun nofun
    · exact .done_ports rfl)

theorem rescanLibrary_settles : Settles s (rescanLibrary p body s) := .ofLength (.controlOnly (by
  split
  · exact .refuseWith nofun nofun
  · exact .done_ports rfl))

theorem claimFault_status {x : Slot} {st : Status} (h : claimFault p x = some st) : st = .notOwner ∨ st = .inUse := by
  unfold claimFault at h
  split at h
  · exact .inl (Option.some.inj h).symm
  · split at h
    · exact .inr (Option.some.inj h).symm
    · exact .inr (Option.some.inj h).symm
    · split at h
      · exact .inr (Option.some.inj h).symm
      · cases h
    · cases h

theorem firstClaimFault_status {l : List SlotId} {i pos : Nat} {st : Status} (h : firstClaimFault s p i l = some (pos, st)) :
    st = .notOwner ∨ st = .inUse := by
  induction l generalizing i with
  | nil => cases h
  | cons n l ih =>
    unfold firstClaimFault at h
    split at h
    next hst =>
      cases h
      exact claimFault_status hst
    next => exact ih h

theorem loadClaim_error_status {l : List SlotId} {pos : Nat} {st : Status} (h : loadClaim p l s = .error (pos, st)) :
    st = .notOwner ∨ st = .inUse := by
  unfold loadClaim at h
  split at h
  next hfault =>
    cases h
    exact firstClaimFault_status hfault
  · cases h

theorem loadPlanes_settles : Settles s (loadPlanes p body s) := by
  unfold loadPlanes
  dsimp only
  split
  · split
    · exact .refuse nofun nofun
    · exact .refuse nofun nofun
    · exact .refuse nofun nofun
    · split
      · exact .refuseWith nofun nofun
      · split
        · exact .refuseWith nofun nofun
        · split
          next hclaim => obtain rfl | rfl := loadClaim_error_status hclaim <;> exact .refuseWith nofun nofun
          next hclaim => exact .done_ports (congrArg State.ports (loadClaim_frame hclaim) :)
  · exact .refuse nofun nofun

theorem cancelLoad_settles : Settles s (cancelLoad p body s) := .ofLength (by
  split
  · exact .refuse nofun nofun
  · split
    · split
      · exact .done (.dropJobs _ _ s)
      · exact .refuse nofun nofun
    · split
      · exact .refuse nofun nofun
      · exact .refuse nofun nofun)

/-! ## The sequence table -/

theorem claimSeq_settles (count : Nat) (n : SeqId) : Settles s (claimSeq p count n s) := .done_ports rfl

theorem createSequence_settles : Settles s (createSequence p body s) := .ofLength (by
  split
  · split
    · exact claimSeq_settles _ _
    · exact .refuse nofun nofun
  · split
    · exact .refuse nofun nofun
    · split
      · exact claimSeq_settles _ _
      · exact .refuse nofun nofun)

theorem appendSteps_settles : Settles s (appendSteps p body s) := by
  unfold appendSteps
  dsimp only
  split
  · refine .openSeq fun n => ?_
    split
    · exact .refuseWith nofun nofun
    · split
      · exact .refuseWith nofun nofun
      · split
        · exact .refuseWith nofun nofun
        · split
          · exact .refuseWith nofun nofun
          next hpin => exact .done_ports (congrArg State.ports (pinRaise_frame hpin) :)
  · exact .refuse nofun nofun

theorem removeSteps_settles : Settles s (removeSteps p body s) := .ofLength (.openSeq fun n => by
  dsimp only
  split
  · exact .refuseWith nofun nofun
  · exact .done_ports (pinRelease_ports _ _))

theorem setRepeat_settles : Settles s (setRepeat p body s) := .ofLength (.openSeq fun n => by
  dsimp only
  split
  · exact .refuse nofun nofun
  · exact .done_ports rfl)

theorem sealSequence_settles : Settles s (sealSequence p body s) := .ofLength (.openSeq fun n => by
  dsimp only
  split
  · exact .refuse nofun nofun
  · exact .done_ports rfl)

theorem unsealSequence_settles : Settles s (unsealSequence p body s) := .ofLength (.ownedSeq fun n => by
  dsimp only
  split
  · exact .refuse nofun nofun
  · split
    · exact .refuseWith nofun nofun
    · exact .done_ports rfl)

theorem deleteSequence_settles : Settles s (deleteSequence p body s) := .ofLength (.ownedSeq fun n => by
  dsimp only
  split
  · exact .refuseWith nofun nofun
  · exact .done_ports (emptySequence_ports _ _))

theorem sequenceStatus_settles : Settles s (sequenceStatus body s) := .ofLength (by
  dsimp only
  split
  · exact .done_ports rfl
  · exact .refuse nofun nofun)

theorem readSteps_settles : Settles s (readSteps body s) := .ofLength (by
  dsimp only
  split
  · exact .refuse nofun nofun
  · split
    · exact .refuse nofun nofun
    · split
      · exact .done_ports rfl
      · exact .refuseWith nofun nofun)

/-! ## The submission queue -/

theorem submit_settles : Settles s (submit p body s) := .ofLength (by
  dsimp only
  split
  · exact .refuse nofun nofun
  · split
    · exact .refuse nofun nofun
    · split
      · exact .refuse nofun nofun
      · split
        · exact .refuse nofun nofun
        · split
          · exact .refuse nofun nofun
          · split
            · exact .refuse nofun nofun
            · split
              · exact .refuse nofun nofun
              next huse =>
                obtain ⟨-, rfl⟩ := useRaise_eq huse
                exact .done_ports rfl)

theorem requestDirect_settles : Settles s (requestDirect p body s) := .ofLength (by
  dsimp only
  split
  · exact .refuse nofun nofun
  · split
    · exact .refuse nofun nofun
    · split
      · exact .refuse nofun nofun
      · exact .done_ports rfl)

theorem queueStatus_settles : Settles s (queueStatus body s) := .ofLength (.done_ports rfl)

/-- A CANCEL at the queue is settled there, or passed to the player. -/
theorem cancelChecks_settles : (∃ r, cancelChecks p body s = .answer r ∧ Settles s r)
    ∨ ∃ passed, (passed = .passedCancel ∨ passed = .passedFallback) ∧ cancelChecks p body s = .pass passed := by
  unfold cancelChecks
  split
  · exact .inl ⟨_, rfl, .refuse nofun nofun⟩
  · split
    · split
      · exact .inr ⟨_, .inr rfl, rfl⟩
      · exact .inl ⟨_, rfl, .refuse nofun nofun⟩
    · split
      · exact .inl ⟨_, rfl, .refuse nofun nofun⟩
      · split
        · exact .inl ⟨_, rfl, .refuse nofun nofun⟩
        · split
          · exact .inl ⟨_, rfl, .done (.removeEntry p _ s)⟩
          · exact .inr ⟨_, .inl rfl, rfl⟩

/-! ## The player and direct mode -/

theorem setHoldLevel_settles : Settles s (setHoldLevel p body s) := .ofLength (.controlOnly (by
  dsimp only
  split
  · exact .refuse nofun nofun
  · exact .done_ports rfl))

theorem setFallback_settles : Settles s (setFallback p body s) := .ofLength (.controlOnly (by
  dsimp only
  split
  · exact .done_ports (releaseDesignated_ports _ _)
  · split
    · exact .refuse nofun nofun
    · split
      · exact .done_ports rfl
      · split
        · exact .refuse nofun nofun
        next huse =>
          obtain ⟨-, rfl⟩ := useRaise_eq huse
          exact .done_ports (releaseDesignated_ports _ _)))

theorem clearHalt_settles : Settles s (clearHalt p body s) := .ofLength (.controlOnly (by
  dsimp only
  split
  · exact .done_ports rfl
  · exact .refuse nofun nofun))

theorem resetTold_notices : NoticesOnly s (resetTold s) :=
  .trans (.resetHolder s) (.foldl (f := resetSuspended) (fun _ _ => .notifySubmitter _ _ _) _ _)

theorem useReleases_notices (l : List SeqId) (u : State) : NoticesOnly u (useReleases l u) :=
  .foldl (fun _ _ => .of_ports (useRelease_ports _ _)) l u

theorem clearPlayer_ports (u : State) : (clearPlayer u).ports = u.ports := rfl

/-- What RESET_PLAYER leaves, having handed its ports notices alone. -/
theorem resetPlayer_notices : NoticesOnly s (clearPlayer (clearLatches (blankRequest (restartLink (resetLights
    (resetQueue (useReleases (resetUses s) (resetTold s)))))))) := by
  have hqueue := (resetTold_notices.trans (useReleases_notices (resetUses s) (resetTold s))).trans (.resetQueue _)
  have hlink := (hqueue.then_ports (resetLights_ports _)).trans (.restartLink _)
  exact ((hlink.then_ports (blankRequest_ports _)).then_ports (clearLatches_ports _)).then_ports (clearPlayer_ports _)

theorem resetPlayer_settles : Settles s (resetPlayer p body s) := .ofLength (.controlOnly (.done resetPlayer_notices))

theorem playerStatus_settles : Settles s (playerStatus body s) := .ofLength (.done_ports rfl)

theorem acceptDirect_settles : Settles s (acceptDirect p body s) := .ofLength (by
  split
  · split
    · exact .done_ports rfl
    · exact .refuse nofun nofun
  · exact .refuse nofun nofun)

theorem showPlane_settles : Settles s (showPlane p body s) := .ofLength (by
  split
  · split
    · split
      · exact .refuse nofun nofun
      · split
        · exact .refuse nofun nofun
        · split
          · exact .refuse nofun nofun
          · split
            · exact .refuse nofun nofun
            next hpin => exact .done_ports ((joinShow_ports _ _ _ _).trans (congrArg State.ports (pinRaise_frame hpin) :))
    · exact .refuse nofun nofun
  · exact .refuse nofun nofun)

theorem releaseDirect_settles : Settles s (releaseDirect p body s) := .ofLength (by
  split
  · exact .done_ports rfl
  · split
    · split
      · exact .done_ports (endDirect_ports s)
      · exact .refuse nofun nofun
    · split
      · exact .done_ports (endDirect_ports s)
      · exact .refuse nofun nofun
    · exact .refuse nofun nofun)

theorem abortRunning_settles (n : Nat) (c : Context) : Settles s (done [] (abortRunning n c s)) := .done (.abortRunning n c s)

theorem cancelSuspended_settles (q : PortId) (tag : Word16) : Settles s (cancelSuspended q tag s) := by
  unfold cancelSuspended
  split
  · exact .done (.abortSuspended _ s)
  · exact .refuse nofun nofun

theorem cancelContext_settles : Settles s (cancelContext body s) := by
  unfold cancelContext
  split
  · exact .refuse nofun nofun
  · split
    · split
      · exact abortRunning_settles _ _
      · exact cancelSuspended_settles _ _
    · exact cancelSuspended_settles _ _

theorem cancelFallback_settles : Settles s (cancelFallback body s) := by
  unfold cancelFallback
  split
  · exact abortRunning_settles _ _
  · exact .refuse nofun nofun

/-! ## Triggers, lights and the link -/

theorem configureTriggers_settles : Settles s (configureTriggers p body s) := .ofLength (.controlOnly (by
  dsimp only
  split
  · exact .done_ports rfl
  · exact .refuse nofun nofun))

theorem softTrigger_settles : Settles s (softTrigger p body s) := .ofLength (by
  split
  · exact .done (.triggerArrival _ s)
  · exact .refuse nofun nofun)

theorem triggerStatus_settles : Settles s (triggerStatus body s) := .ofLength (.done_ports rfl)

theorem configureLights_settles : Settles s (configureLights p body s) := .ofLength (.controlOnly (.done_ports
  (foldl_keeps (f := forceIfPast) State.ports (fun u c => forceIfPast_ports u c) _ _)))

theorem linkStatus_settles : Settles s (linkStatus body s) := .ofLength (.done_ports rfl)

/-! ## Every request -/

theorem actionOf_settles (cmd : Command) (hne : cmd ≠ .closeFill) : Settles s (actionOf p cmd body s) := by
  cases cmd with
  | openSession | closeSession | deviceInfo | cancel => exact .refuse nofun nofun
  | closeFill => exact absurd rfl hne
  | allocateSlot => exact allocateSlot_settles
  | openFill => exact openFill_settles
  | writePlane => exact writePlane_settles
  | abandonFill => exact abandonFill_settles
  | freeSlot => exact freeSlot_settles
  | slotStatus => exact slotStatus_settles
  | libraryStatus => exact libraryStatus_settles
  | libraryEntry => exact libraryEntry_settles
  | rescanLibrary => exact rescanLibrary_settles
  | loadPlanes => exact loadPlanes_settles
  | cancelLoad => exact cancelLoad_settles
  | createSequence => exact createSequence_settles
  | appendSteps => exact appendSteps_settles
  | removeSteps => exact removeSteps_settles
  | setRepeat => exact setRepeat_settles
  | sealSequence => exact sealSequence_settles
  | unsealSequence => exact unsealSequence_settles
  | deleteSequence => exact deleteSequence_settles
  | sequenceStatus => exact sequenceStatus_settles
  | readSteps => exact readSteps_settles
  | submit => exact submit_settles
  | requestDirect => exact requestDirect_settles
  | queueStatus => exact queueStatus_settles
  | setHoldLevel => exact setHoldLevel_settles
  | setFallback => exact setFallback_settles
  | clearHalt => exact clearHalt_settles
  | resetPlayer => exact resetPlayer_settles
  | playerStatus => exact playerStatus_settles
  | configureTriggers => exact configureTriggers_settles
  | trigger => exact softTrigger_settles
  | triggerStatus => exact triggerStatus_settles
  | configureLights => exact configureLights_settles
  | linkStatus => exact linkStatus_settles
  | acceptDirect => exact acceptDirect_settles
  | showPlane => exact showPlane_settles
  | releaseDirect => exact releaseDirect_settles

/-- What follows a reply hands the ports notices alone. -/
theorem followOf_notices (cmd : Command) (t : State) : NoticesOnly t (followOf p s cmd t) := by
  cases cmd with
  | loadPlanes | cancelLoad => exact .startHead t
  | submit | requestDirect => exact .of_ports rfl
  | setHoldLevel | clearHalt | acceptDirect => exact .select t
  | showPlane => exact .selectForHead t
  | releaseDirect =>
    simp only [followOf]
    split
    · exact .refl t
    · exact .select t
  | _ => exact .refl t

end

/-- What has become of a request that a block has settled: one reply more, DONE, or a refusal and nothing else. -/
def AnsweredOnce (s : State) (p : PortId) (t : State) : Prop :=
  (∃ b, t.repliesTo p = s.repliesTo p ++ [(.done, b)])
    ∨ ∃ st b, st ≠ .done ∧ st ≠ .checkFailed ∧ t = s.reply p { status := st, body := b }

theorem Settles.answered {s : State} {p : PortId} {r : State × Answer} (h : Settles s r) {follow : State → State}
    (hfollow : ∀ t, NoticesOnly t (follow t)) :
    AnsweredOnce s p (if r.2.status = .done then follow (r.1.reply p r.2) else r.1.reply p r.2) := by
  obtain ⟨hdone, hnotices⟩ | ⟨hdone, hcheck, hs⟩ := h
  · refine .inl ⟨r.2.body, ?_⟩
    rw [if_pos hdone, (hfollow _).repliesTo, repliesTo_reply, hnotices.repliesTo, hdone]
  · refine .inr ⟨r.2.status, r.2.body, hdone, hcheck, ?_⟩
    rw [if_neg hdone, hs]

/-- Settles O14: each action is settled, and what follows its reply adds none. -/
theorem everyRequestIsAnsweredOnce : Obligations.EveryRequestIsAnsweredOnce := by
  intro s p cmd place body i hrow hask
  suffices h : (∃ t, exec i s = .next t ∧ AnsweredOnce s p t)
      ∨ (∃ n b, cmd = .closeFill ∧ slotOf (field2 body 0) = some n
        ∧ exec i s = .next ((s.setSlot n ((s.slot n).heldWith .checkFailed)).reply p { status := .checkFailed, body := b }))
      ∨ (∃ passed, cmd = .cancel ∧ place = .atBlock .queue ∧ (passed = .passedCancel ∨ passed = .passedFallback)
        ∧ exec i s = .next (s.moveRequest p passed)) by
    obtain ⟨t, ht, hdone | hrefused⟩ | ⟨n, b, hcmd, hn, ht⟩ | ⟨passed, hcmd, hplace, hpassed, ht⟩ := h
    · exact ⟨t, ht, .inl hdone⟩
    · exact ⟨t, ht, .inr (.inl hrefused)⟩
    · exact ⟨_, ht, .inr (.inr (.inl ⟨n, b, hcmd, hn, rfl⟩))⟩
    · exact ⟨_, ht, .inr (.inr (.inr ⟨passed, hcmd, hplace, hpassed, rfl⟩))⟩
  cases place with
  | atBlock b =>
    obtain ⟨hb, rfl⟩ := rowAt_atBlock hrow
    by_cases hcancel : cmd = .cancel
    · subst hcancel
      obtain rfl : Block.queue = b := Option.some.inj hb
      have hexec := exec_cancel_asked hask
      obtain ⟨r, hr, hsettles⟩ | ⟨passed, hpassed, hr⟩ := cancelChecks_settles (s := s) (p := p) (body := body)
      · rw [hr] at hexec
        refine .inl ⟨_, hexec, ?_⟩
        have hanswered := hsettles.answered (p := p) (follow := id) NoticesOnly.refl
        simpa only [id, ite_self] using hanswered
      · rw [hr] at hexec
        exact .inr (.inr ⟨passed, rfl, rfl, hpassed, hexec⟩)
    · have hexec := exec_row (p := p) (s := s) hb hcancel
      rw [serveAt_asked hask] at hexec
      by_cases hclose : cmd = .closeFill
      · subst hclose
        obtain hsettles | ⟨n, b, hn, hr⟩ := closeFill_settles (s := s) (p := p) (body := body)
        · exact .inl ⟨_, hexec, hsettles.answered (followOf_notices _)⟩
        · rw [show actionOf p .closeFill body s = _ from hr] at hexec
          exact .inr (.inl ⟨n, b, rfl, hn, hexec⟩)
      · exact .inl ⟨_, hexec, (actionOf_settles cmd hclose).answered (followOf_notices _)⟩
  | passedCancel =>
    obtain ⟨rfl, rfl⟩ := rowAt_passedCancel hrow
    exact .inl ⟨_, exec_cancelContext_asked hask, cancelContext_settles.answered NoticesOnly.selectIfIdle⟩
  | passedFallback =>
    obtain ⟨rfl, rfl⟩ := rowAt_passedFallback hrow
    exact .inl ⟨_, exec_cancelFallback_asked hask, cancelFallback_settles.answered NoticesOnly.selectIfIdle⟩
  | answered => cases hrow

end Sys2Proof.Machine

/-! PROOF. The plane store: claiming (R4, R5), filling (R6, R7, R8), pins and uses (R12, R13, R53 to R55), and the end of a session
(R18). -/

namespace Sys2Proof.Machine

set_option Elab.async false

/-! ## ALLOCATE_SLOT (R4, R5) -/

/-- The first of a bank's numbers that has a property. -/
theorem find?_finRange_eq_some {k : Nat} {f : Fin k → Bool} {n : Fin k} (hn : f n = true) (hlow : ∀ m, m < n → f m = false) :
    (List.finRange k).find? f = some n := by
  rw [List.find?_eq_some_iff_getElem]
  refine ⟨hn, n.val, by simp, by simp, fun j hj => ?_⟩
  have hlt : j < k := Nat.lt_trans hj n.isLt
  simpa using hlow ⟨j, hlt⟩ hj

theorem find?_finRange_eq_none {k : Nat} {f : Fin k → Bool} (h : ∀ n, f n = false) : (List.finRange k).find? f = none :=
  List.find?_eq_none.mpr fun n _ => by simp [h n]

theorem field2_le2_nil {v : Nat} (h : v < 65536) : field2 (le2 v) 0 = v := by
  have hfield := field2_le2 v h []
  rwa [List.append_nil] at hfield

theorem field2_slotBytes_nil (n : SlotId) : field2 (slotBytes n) 0 = n.val := by
  have hfield := field2_slotBytes n []
  rwa [List.append_nil] at hfield

section
variable {s : State} {p : PortId} {body : List Byte}

/-- A number below 448 names one slot. -/
theorem allocateSlot_named {n : SlotId} :
    allocateSlot p (slotBytes n) s = if (s.slot n).content = .free then claimFree p n s else refuse .inUse s := by
  have hlt := n.isLt
  rw [allocateSlot, ofLength_of_length_eq (show (slotBytes n).length = 2 from rfl), field2_slotBytes_nil, if_neg (by omega)]
  simp only [slotOf_val]

theorem allocateSlot_out_of_range {v : Nat} (hlow : 448 ≤ v) (hhigh : v < 65535) :
    allocateSlot p (le2 v) s = refuse .badArgument s := by
  rw [allocateSlot, ofLength_of_length_eq (le2_length v), field2_le2_nil (by omega), if_neg (by omega), slotOf, dif_neg (by omega)]

theorem allocateSlot_any_found {n : SlotId} (hn : (s.slot n).content = .free)
    (hlow : ∀ m, m < n → (s.slot m).content ≠ .free) : allocateSlot p [0xFF, 0xFF] s = claimFree p n s := by
  have hfind : (List.finRange 448).find? (fun m => (s.slot m).content == .free) = some n :=
    find?_finRange_eq_some (by simpa using hn) fun m hm => by simpa using hlow m hm
  rw [allocateSlot, ofLength_of_length_eq (show ([0xFF, 0xFF] : List Byte).length = 2 from rfl),
    if_pos (show field2 [0xFF, 0xFF] 0 = 0xFFFF from rfl), hfind]

theorem allocateSlot_any_none (hnone : ∀ n, (s.slot n).content ≠ .free) :
    allocateSlot p [0xFF, 0xFF] s = refuse .exhausted s := by
  have hfind : (List.finRange 448).find? (fun m => (s.slot m).content == .free) = none :=
    find?_finRange_eq_none fun n => by simpa using hnone n
  rw [allocateSlot, ofLength_of_length_eq (show ([0xFF, 0xFF] : List Byte).length = 2 from rfl),
    if_pos (show field2 [0xFF, 0xFF] 0 = 0xFFFF from rfl), hfind]

/-- Settles O16: the number in the body decides, and then the slot it names or the lowest that is FREE. -/
theorem allocateSlotClaims : Obligations.AllocateSlotClaims := by
  intro s p body hask
  simp only [exec_allocateSlot_asked hask]
  refine ⟨fun hlen => ?_, fun v hlow hhigh hbody => ?_, fun n hbody hfree => ?_, fun n hbody hbusy => ?_,
    fun n hbody hfree hlow => ?_, fun hbody hnone => ?_⟩
  · rw [allocateSlot, ofLength_of_length_ne hlen]
    rfl
  · rw [hbody, allocateSlot_out_of_range hlow hhigh]
    rfl
  · rw [hbody, allocateSlot_named, if_pos hfree]
    rfl
  · rw [hbody, allocateSlot_named, if_neg hbusy]
    rfl
  · rw [hbody, allocateSlot_any_found hfree hlow]
    rfl
  · rw [hbody, allocateSlot_any_none hnone]
    rfl

/-! ## OPEN_FILL and CLOSE_FILL (R6, R8) -/

/-- OPEN_FILL of a slot of the requester. -/
theorem openFill_owned {n : SlotId} (hown : (s.slot n).owner = some p) :
    openFill p (slotBytes n) s =
      (let filled := s.setSlot n { s.slot n with content := .filling 0 0, mismatches := 0 }
       match (s.slot n).content with
       | .held => done [] filled
       | .ready _ _ => if 0 < (s.slot n).pins then refuse .inUse s else done [] filled
       | _ => refuse .wrongState s) := by
  rw [openFill, ofLength_ownedSlot_of_owner hown] <;> rfl

/-- CLOSE_FILL of a slot of the requester. -/
theorem closeFill_owned {n : SlotId} {expected : Crc32} (hown : (s.slot n).owner = some p) :
    closeFill p (slotBytes n ++ crcBytes expected) s =
      (match (s.slot n).content with
       | .filling progress crc =>
         if progress = Config.planeBytes then
           if crc = expected then done (crcBytes crc) (s.setSlot n ((s.slot n).readyWith crc .host))
           else refuseWith .checkFailed (crcBytes crc) (s.setSlot n ((s.slot n).heldWith .checkFailed))
         else refuse .wrongState s
       | _ => refuse .wrongState s) := by
  have hcrc : crcAt (slotBytes n ++ crcBytes expected) 2 = expected := by
    have h := crcAt_append_right (slotBytes n) (crcBytes expected) 0
    rw [← List.append_nil (crcBytes expected), crcAt_crcBytes, List.append_nil] at h
    exact h
  rw [closeFill, ofLength_of_length_eq (show (slotBytes n ++ crcBytes expected).length = 6 from rfl), field2_slotBytes,
    ownedSlot, slotOf_val]
  simp only [if_pos hown, hcrc] <;> rfl

end

/-- Settles O17: the state of the slot decides, and for CLOSE_FILL the CRC. -/
theorem fillsAreOpenedAndJudged : Obligations.FillsAreOpenedAndJudged := by
  intro s p n hown
  refine ⟨fun hask => ⟨fun hheld => ?_, fun c o hready hpins => ?_, fun c o hready hpins => ?_, fun k c hbusy => ?_⟩,
    fun expected hask => ⟨fun hnot => ?_, fun crc hfull => ?_⟩⟩
  · rw [exec_openFill_asked hask, openFill_owned hown, hheld]
    rfl
  · rw [exec_openFill_asked hask, openFill_owned hown, hready]
    simp only [if_neg (Nat.not_lt.mpr (Nat.le_zero.mpr hpins))]
    rfl
  · rw [exec_openFill_asked hask, openFill_owned hown, hready]
    simp only [if_pos (Nat.pos_of_ne_zero hpins)]
    rfl
  · rw [exec_openFill_asked hask, openFill_owned hown]
    obtain hbusy | hbusy := hbusy <;> rw [hbusy] <;> rfl
  · rw [exec_closeFill_asked hask, closeFill_owned hown]
    split
    next progress crc hfill =>
      rw [if_neg fun hprogress => hnot crc (hfill.trans (by rw [hprogress, Config.planeBytes]))]
      rfl
    · rfl
  · rw [exec_closeFill_asked hask, closeFill_owned hown, hfull]
    refine congrArg Host.Outcome.next ?_
    simp only [if_pos (show (65536 : Nat) = Config.planeBytes from rfl)]
    split <;> rfl

/-! ## WRITE_PLANE (R7) -/

theorem planeAddr_add (n : SlotId) (k i : Nat) : planeAddr n (k + i) = planeAddr n k + i := (Nat.add_assoc _ _ _).symm

/-- WRITE_PLANE of data of a good length to a FILLING slot of the requester. -/
theorem writePlane_owned {s : State} {p : PortId} {n : SlotId} {k offset : Nat} {crc : Crc32} {data : List Byte}
    (hmin : 16 ≤ data.length) (hmax : data.length ≤ 1008) (hmod : data.length % 16 = 0) (hoffset : offset < 4294967296)
    (hown : (s.slot n).owner = some p) (hfill : (s.slot n).content = .filling k crc) :
    writePlane p (slotBytes n ++ le4 offset ++ data) s =
      if offset = k ∧ k + data.length ≤ Config.planeBytes then
        done (le4 (k + data.length))
          { s.setSlot n { s.slot n with content := .filling (k + data.length) (crc32Carry crc data) } with
            planeMem := memWrite (planeAddr n k) data s.planeMem }
      else refuseWith .badArgument (le4 k) s := by
  have hlen : (slotBytes n ++ le4 offset ++ data).length - 6 = data.length := by
    rw [List.length_append]
    exact Nat.add_sub_cancel_left 6 data.length
  have hnumber : field2 (slotBytes n ++ le4 offset ++ data) 0 = n.val := by rw [List.append_assoc, field2_slotBytes]
  have hfield : field4 (slotBytes n ++ le4 offset ++ data) 2 = offset := by
    have h := field4_append_right (slotBytes n) (le4 offset ++ data) 0
    rw [field4_le4 offset hoffset, ← List.append_assoc] at h
    exact h
  have hdata : (slotBytes n ++ le4 offset ++ data).drop 6 = data :=
    List.drop_left (l₁ := slotBytes n ++ le4 offset)
  unfold writePlane
  rw [hlen, hnumber, hfield, hdata]
  dsimp only
  rw [if_pos ⟨hmin, hmax, hmod⟩, ownedSlot, slotOf_val]
  simp only [if_pos hown, hfill]

/-- Settles O18: at the progress, within the plane, the data is written; otherwise nothing is. -/
theorem writePlaneWritesInOrder : Obligations.WritePlaneWritesInOrder := by
  intro s p n k offset crc data hmin hmax hmod hoffset hown hfill hask
  rw [exec_writePlane_asked hask, writePlane_owned hmin hmax hmod hoffset hown hfill]
  refine ⟨fun hk hfits => ?_, fun hbad => ?_⟩
  · rw [if_pos ⟨hk, hfits⟩]
    refine ⟨_, rfl, fun i hi => ?_, fun a ha => ?_, rfl⟩
    · rw [planeAddr_add]
      exact memRead_memWrite _ data s.planeMem i hi
    · rw [planeAddr_add] at ha
      exact memRead_memWrite_of_outside _ data s.planeMem a ha
  · rw [if_neg (by rintro ⟨hk, hfits⟩; exact hbad.elim (absurd hk) (Nat.not_lt.mpr hfits))]
    rfl

/-! ## Pins and uses (R12, R13, R53 to R55) -/

theorem pinRaise_ready {l : List SlotId} {s : State} (h : ∀ n ∈ l, (s.slot n).isReady = true) :
    pinRaise l s = .ok (l.foldl pinOne s) := by
  have hnone : l.findIdx? (fun n => !(s.slot n).isReady) = none :=
    List.findIdx?_eq_none_iff.mpr fun n hn => by rw [h n hn]; rfl
  rw [pinRaise, hnone]

theorem pinRaise_not_ready {before after : List SlotId} {n : SlotId} {s : State}
    (hbefore : ∀ m ∈ before, (s.slot m).isReady = true) (hn : (s.slot n).isReady = false) :
    pinRaise (before ++ n :: after) s = .error before.length := by
  have hsome : (before ++ n :: after).findIdx? (fun n => !(s.slot n).isReady) = some before.length := by
    have hnone : before.findIdx? (fun n => !(s.slot n).isReady) = none :=
      List.findIdx?_eq_none_iff.mpr fun m hm => by rw [hbefore m hm]; rfl
    simp [List.findIdx?_append, hnone, List.findIdx?_cons, hn]
  rw [pinRaise, hsome]

theorem slot_pinRelease {l : List SlotId} {s : State} {n : SlotId} (h : l.count n ≤ (s.slot n).pins) :
    (pinRelease l s).slot n =
      if n ∈ l ∧ (s.slot n).pins = l.count n ∧ (s.slot n).orphan = true then Slot.free
      else { s.slot n with pins := (s.slot n).pins - l.count n } := by
  have hzero : (s.slot n).pins - l.count n = 0 ↔ (s.slot n).pins = l.count n := by omega
  rw [pinRelease, (foldl_freeOrphan l _).1, (foldl_unpinOne l s).1]
  simp only [hzero]

theorem useRelease_last {s : State} {n : SeqId} (horphan : (s.seq n).orphan = true) (huses : (s.seq n).uses = 1) :
    useRelease n s = pinRelease ((s.seq n).steps.map Step.slot)
      { s.setSeq n Sequence.empty with poolFree := s.poolFree + (s.seq n).steps.length } := by
  unfold useRelease
  dsimp only
  rw [if_pos ⟨by rw [huses], horphan⟩, emptySequence, State.seq_setSeq, if_pos rfl, State.setSeq_setSeq]
  rfl

theorem useRelease_kept {s : State} {n : SeqId} (h : (s.seq n).orphan = false ∨ 2 ≤ (s.seq n).uses) :
    useRelease n s = s.setSeq n { s.seq n with uses := (s.seq n).uses - 1 } := by
  refine if_neg ?_
  rintro ⟨hzero, horphan⟩
  dsimp only at hzero horphan
  obtain hnot | htwo := h
  · rw [hnot] at horphan
    cases horphan
  · omega

/-- Settles O20: each operation on the references, slot by slot and sequence by sequence. -/
theorem referencesAreRaisedAndReleased : Obligations.ReferencesAreRaisedAndReleased := fun s => by
  refine ⟨fun l => ⟨fun hready => ⟨_, pinRaise_ready hready, (foldl_pinOne l s).1, (foldl_pinOne l s).2⟩, ?_,
    fun hcount => ⟨pinRelease_frame l s, fun n => slot_pinRelease (hcount n)⟩⟩,
    fun n => ⟨rfl, useRelease_last, useRelease_kept⟩⟩
  rintro before after n rfl hbefore hn
  exact pinRaise_not_ready hbefore hn

/-! ## The end of a session (R18) -/

/-- Settles O21: the bank changes slot by slot. -/
theorem sessionEndAtThePlaneStore : Obligations.SessionEndAtThePlaneStore := by
  intro s p x before after hs hblock hport hfirst
  refine ⟨_, congrArg Host.Outcome.next (takeAnnouncement_found hs hblock hport hfirst _), rfl, fun n => ?_⟩
  refine (getElem_mapBank (Slot.endSession p) s.slots n.val n.isLt).trans ?_
  show Slot.endSession p (s.slot n) = _
  unfold Slot.endSession
  rfl

end Sys2Proof.Machine

/-! PROOF. The sequence table: creating (R43), appending, removing and deleting (R44 to R46, R50), and the end of a session (R56). -/

namespace Sys2Proof.Machine

set_option Elab.async false

/-! ## CREATE_SEQUENCE (R43) -/

section
variable {s : State} {p : PortId} {number : Byte} {count : Nat}

theorem createSequence_read (hcount : count < 65536) :
    createSequence p (number :: le2 count) s =
      if number.toNat = 0xFF then
        ((List.finRange 32).find? fun n => (s.seq n).state == .empty).elim (refuse .exhausted s) fun n => claimSeq p count n s
      else
        (seqOf number.toNat).elim (refuse .badArgument s) fun n =>
          if (s.seq n).state = .empty then claimSeq p count n s else refuse .inUse s := by
  have hfield : field2 (number :: le2 count) 1 = count := field2_le2_nil hcount
  rw [createSequence, ofLength_of_length_eq (show (number :: le2 count).length = 3 from rfl), hfield]
  rw [show field1 (number :: le2 count) 0 = number.toNat from rfl]
  split
  · cases (List.finRange 32).find? fun n => (s.seq n).state == .empty <;> rfl
  · cases seqOf number.toNat <;> rfl

end

/-- Settles O22: the number in the body decides, and then the sequence it names or the lowest that is EMPTY. -/
theorem createSequenceClaims : Obligations.CreateSequenceClaims := by
  intro s p count number hcount hask
  simp only [exec_createSequence_asked hask, createSequence_read hcount]
  have hff : number = 0xFF ↔ number.toNat = 0xFF :=
    ⟨fun h => h ▸ rfl, fun h => BitVec.eq_of_toNat_eq h⟩
  have hclaim : ∀ n, (claimSeq p count n s) = done (seqByte n) (s.setSeq n
      { state := .opened, owner := some p, repeatCount := max 1 count, steps := [], uses := 0, orphan := false }) := fun n => by
    have hmax : (if count = 0 then 1 else count) = max 1 count := by
      split
      · subst count; rfl
      · omega
    rw [claimSeq, hmax]
  refine ⟨fun n hempty hnumber => ?_, fun hge hne => ?_, fun n hn hbusy => ?_, fun heq hnone => ?_⟩
  · obtain hn | ⟨heq, hlow⟩ := hnumber
    · have hlt := n.isLt
      rw [if_neg (by omega), hn, seqOf_val, Option.elim_some, if_pos hempty, hclaim]
      rfl
    · have hfind : (List.finRange 32).find? (fun m => (s.seq m).state == .empty) = some n :=
        find?_finRange_eq_some (by simpa using hempty) fun m hm => by simpa using hlow m hm
      rw [if_pos (hff.mp heq), hfind, Option.elim_some, hclaim]
      rfl
  · rw [if_neg (mt hff.mpr hne), seqOf_of_le hge]
    rfl
  · have hlt := n.isLt
    rw [if_neg (by omega), hn, seqOf_val, Option.elim_some, if_neg hbusy]
    rfl
  · have hfind : (List.finRange 32).find? (fun m => (s.seq m).state == .empty) = none :=
      find?_finRange_eq_none fun n => by simpa using hnone n
    rw [if_pos (hff.mp heq), hfind]
    rfl

/-! ## Step records (R44, R176) -/

theorem field1_append_right (l r : List Byte) (i : Nat) : field1 (l ++ r) (l.length + i) = field1 r i := by
  simp only [field1, byteAt_append_right]

theorem stepAt_append_right (l r : List Byte) (i : Nat) : stepAt (l ++ r) (l.length + i) = stepAt r i := by
  simp only [stepAt, Nat.add_assoc, field2_append_right, field1_append_right]

theorem stepsFrom_append_right (l r : List Byte) (i pos n : Nat) :
    stepsFrom (l ++ r) (l.length + i) pos n = stepsFrom r i pos n := by
  induction n generalizing i pos with
  | zero => rfl
  | succ n ih =>
    unfold stepsFrom
    rw [stepAt_append_right, Nat.add_assoc, ih]

/-- The 8 bytes of a step record, whatever its fields. -/
def rawStep (slot hold gap : Nat) (advance mask : Byte) : List Byte := le2 slot ++ le2 hold ++ le2 gap ++ [advance, mask]

theorem stepAt_rawStep {slot hold gap : Nat} {advance mask : Byte} (hslot : slot < 65536) (hhold : hold < 65536)
    (r : List Byte) :
    stepAt (rawStep slot hold gap advance mask ++ r) 0 =
      (slotOf slot).bind fun n => (advanceOf advance.toNat).bind fun a => (maskOf (mask.toNat % 128)).bind fun m =>
        if hold = 0 then none
        else some { slot := n, hold := hold, gap := field2 (le2 gap) 0, advance := a, mask := m
                    verify := decide (128 ≤ mask.toNat) } := by
  have hslot' : field2 (rawStep slot hold gap advance mask ++ r) 0 = slot := field2_le2 slot hslot _
  have hhold' : field2 (rawStep slot hold gap advance mask ++ r) 2 = hold := field2_le2 hold hhold (le2 gap ++ [advance, mask] ++ r)
  unfold stepAt
  rw [hslot', hhold']
  rfl

/-- A step passes the field checks that its widths leave (R40, R44). -/
def Step.good (y : Step) : Prop := 1 ≤ y.hold ∧ y.hold ≤ 65535 ∧ y.gap ≤ 65535

theorem stepRecord_eq (y : Step) :
    stepRecord y = rawStep y.slot.val y.hold y.gap (BitVec.ofNat 8 y.advance.code)
      (BitVec.ofNat 8 (y.mask.toNat + if y.verify then 128 else 0)) := rfl

theorem stepRecord_length (y : Step) : (stepRecord y).length = 8 := rfl

/-- A good step reads back from its record. -/
theorem stepAt_stepRecord {y : Step} (h : y.good) (r : List Byte) : stepAt (stepRecord y ++ r) 0 = some y := by
  obtain ⟨hmin, hhold, hgap⟩ := h
  have hslot := y.slot.isLt
  have hmask := y.mask.isLt
  have hbyte : (BitVec.ofNat 8 (y.mask.toNat + if y.verify then 128 else 0)).toNat = y.mask.toNat + if y.verify then 128 else 0 := by
    rw [BitVec.toNat_ofNat, Nat.mod_eq_of_lt]
    split <;> omega
  have hlow : (y.mask.toNat + if y.verify then 128 else 0) % 128 = y.mask.toNat := by
    split <;> omega
  have hverify : decide (128 ≤ y.mask.toNat + if y.verify then 128 else 0) = y.verify := by
    cases y.verify <;> simp
    omega
  have hadvance : advanceOf (BitVec.ofNat 8 y.advance.code).toNat = some y.advance := by
    cases y.advance <;> rfl
  have hmaskOf : maskOf y.mask.toNat = some y.mask := by
    rw [maskOf, if_pos hmask, BitVec.ofNat_toNat, BitVec.setWidth_eq]
  rw [stepRecord_eq, stepAt_rawStep (by omega) (by omega), slotOf_val, hadvance, hbyte, hlow, hmaskOf, hverify,
    field2_le2_nil (by omega)]
  simp only [Option.bind_some]
  exact if_neg (by omega)

/-- A step record with a bad field is no step (R44). -/
theorem stepAt_rawStep_bad {slot hold gap : Nat} {advance mask : Byte} (hslot : slot < 65536) (hhold : hold < 65536)
    (hbad : 448 ≤ slot ∨ hold = 0 ∨ 4 ≤ advance.toNat ∨ 16 ≤ mask.toNat % 128) (r : List Byte) :
    stepAt (rawStep slot hold gap advance mask ++ r) 0 = none := by
  rw [stepAt_rawStep hslot hhold]
  obtain hbad | hbad | hbad | hbad := hbad
  · rw [slotOf, dif_neg (by omega)]
    rfl
  · simp [hbad]
  · have hnone : advanceOf advance.toNat = none := by
      unfold advanceOf
      split
      · omega
      · omega
      · omega
      · omega
      · rfl
    simp [hnone]
  · have hnone : maskOf (mask.toNat % 128) = none := if_neg (by omega)
    simp [hnone]

/-- Good steps read back from their records, and the reading goes on behind them. -/
theorem stepsFrom_records {batch : List Step} (h : ∀ y ∈ batch, y.good) (r : List Byte) (pos k : Nat) :
    stepsFrom ((batch.map stepRecord).flatten ++ r) 0 pos (batch.length + k) =
      (stepsFrom r 0 (pos + batch.length) k).map (batch ++ ·) := by
  induction batch generalizing pos with
  | nil =>
    rw [List.length_nil, Nat.zero_add, Nat.add_zero, List.map_nil, List.flatten_nil, List.nil_append]
    cases stepsFrom r 0 pos k <;> rfl
  | cons y batch ih =>
    obtain ⟨hy, hrest⟩ := List.forall_mem_cons.mp h
    have hnext : stepsFrom (stepRecord y ++ ((batch.map stepRecord).flatten ++ r)) (0 + 8) (pos + 1) (batch.length + k) =
        stepsFrom ((batch.map stepRecord).flatten ++ r) 0 (pos + 1) (batch.length + k) :=
      stepsFrom_append_right (stepRecord y) _ 0 (pos + 1) _
    rw [List.length_cons, Nat.add_right_comm, List.map_cons, List.flatten_cons, List.append_assoc, stepsFrom,
      stepAt_stepRecord hy, hnext, ih hrest, Nat.add_assoc pos 1, Nat.add_comm 1]
    cases stepsFrom r 0 (pos + (batch.length + 1)) k <;> rfl

/-! ## APPEND_STEPS (R44, R45) -/

section
variable {s : State} {p : PortId} {n : SeqId} {count : Nat} {records : List Byte}

theorem field1_count (h : count ≤ 255) : field1 ([BitVec.ofNat 8 n.val, BitVec.ofNat 8 count] ++ records) 1 = count :=
  Nat.mod_eq_of_lt (show count < 2 ^ 8 by omega)

/-- APPEND_STEPS to an OPEN sequence of the requester, its batch read. -/
theorem appendSteps_owned (hmin : 1 ≤ count) (hmax : count ≤ 64) (hlen : records.length = 8 * count)
    (hown : (s.seq n).owner = some p) :
    appendSteps p ([BitVec.ofNat 8 n.val, BitVec.ofNat 8 count] ++ records) s =
      if (s.seq n).state = .opened then
        match stepsFrom records 0 0 count with
        | .error pos => refuseWith .badArgument (u8 pos) s
        | .ok batch =>
          if Config.maxSteps < (s.seq n).steps.length + count then
            refuseWith .badArgument (u8 (Config.maxSteps - (s.seq n).steps.length)) s
          else if s.poolFree < count then refuseWith .exhausted (u8 s.poolFree) s
          else
            match pinRaise (batch.map Step.slot) s with
            | .error pos => refuseWith .wrongState (u8 pos) s
            | .ok t =>
              done (u8 ((s.seq n).steps.length + count))
                { t.setSeq n { s.seq n with steps := (s.seq n).steps ++ batch } with poolFree := s.poolFree - count }
      else refuse .wrongState s := by
  have hsteps : stepsFrom ([BitVec.ofNat 8 n.val, BitVec.ofNat 8 count] ++ records) 2 0 count = stepsFrom records 0 0 count :=
    stepsFrom_append_right [BitVec.ofNat 8 n.val, BitVec.ofNat 8 count] records 0 0 count
  have hnumber : field1 ([BitVec.ofNat 8 n.val, BitVec.ofNat 8 count] ++ records) 0 = n.val := field1_seqId n _
  unfold appendSteps
  rw [field1_count (by omega)]
  dsimp only
  rw [if_pos ⟨hmin, hmax, by rw [List.length_append, hlen]; rfl⟩, hsteps, hnumber, openSeq_of_owner _ hown] <;> rfl

end

/-- Settles O23: the batch is read, and the checks decide in their order. -/
theorem appendStepsAddsTheBatch : Obligations.AppendStepsAddsTheBatch := by
  intro s p n x good asked refused hown
  refine ⟨fun batch hask hmin hmax hgood => ?_, fun before slot hold gap advance mask after count hask hmin hmax hlen hgood hslot
    hhold hopen hbad => ?_⟩
  · have hlen : (batch.map stepRecord).flatten.length = 8 * batch.length := by
      simp [List.length_flatten, Function.comp_def, stepRecord_length, Nat.mul_comm]
    have hread : stepsFrom (batch.map stepRecord).flatten 0 0 batch.length = .ok batch := by
      have h := stepsFrom_records hgood [] 0 0
      rw [List.append_nil] at h
      exact h.trans (congrArg Except.ok (List.append_nil batch))
    have hexec := exec_appendSteps_asked hask
    rw [appendSteps_owned hmin hmax hlen hown, hread] at hexec
    refine ⟨fun hstate => ?_, fun hopen hlong => ?_, fun hopen hlong hpool => ?_, fun hopen hlong hpool =>
      ⟨fun before y after hbatch hready hnot => ?_, fun hready => ?_⟩⟩
    · rw [if_neg hstate] at hexec
      exact hexec
    · rw [if_pos hopen] at hexec
      dsimp only at hexec
      rw [if_pos (show Config.maxSteps < (s.seq n).steps.length + batch.length from hlong)] at hexec
      exact hexec
    · rw [if_pos hopen] at hexec
      dsimp only at hexec
      rw [if_neg (Nat.not_lt.mpr hlong : ¬ Config.maxSteps < (s.seq n).steps.length + batch.length), if_pos hpool] at hexec
      exact hexec
    · have hpin : pinRaise (batch.map Step.slot) s = .error before.length := by
        rw [hbatch, List.map_append, List.map_cons, pinRaise_not_ready (by simpa using hready) hnot, List.length_map]
      rw [if_pos hopen] at hexec
      dsimp only at hexec
      rw [if_neg (Nat.not_lt.mpr hlong : ¬ Config.maxSteps < (s.seq n).steps.length + batch.length), if_neg (Nat.not_lt.mpr hpool), hpin] at hexec
      exact hexec
    · have hpin := pinRaise_ready (l := batch.map Step.slot) (s := s) (by simpa using hready)
      rw [if_pos hopen] at hexec
      dsimp only at hexec
      rw [if_neg (Nat.not_lt.mpr hlong : ¬ Config.maxSteps < (s.seq n).steps.length + batch.length), if_neg (Nat.not_lt.mpr hpool), hpin] at hexec
      obtain ⟨hslots, hframe⟩ := foldl_pinOne (batch.map Step.slot) s
      refine ⟨_, hexec, hslots, ?_⟩
      exact (congrArg (fun u : State => State.reply
        { u.setSeq n { s.seq n with steps := (s.seq n).steps ++ batch } with poolFree := s.poolFree - batch.length } p
          { status := .done, body := u8 ((s.seq n).steps.length + batch.length) }) hframe :)
  · obtain ⟨k, rfl⟩ : ∃ k, count = before.length + (k + 1) := ⟨count - before.length - 1, by omega⟩
    have hlen' : ((before.map stepRecord).flatten ++ rawStep slot hold gap advance mask ++ after).length =
        8 * (before.length + (k + 1)) := by
      have hraw : (rawStep slot hold gap advance mask).length = 8 := rfl
      rw [List.length_append, List.length_append, hraw]
      simp only [List.length_flatten, List.map_map, Function.comp_def, stepRecord_length, List.map_const', List.sum_replicate,
        smul_eq_mul]
      omega
    have hread : stepsFrom ((before.map stepRecord).flatten ++ rawStep slot hold gap advance mask ++ after) 0 0
        (before.length + (k + 1)) = .error before.length := by
      rw [List.append_assoc, stepsFrom_records hgood, stepsFrom, stepAt_rawStep_bad hslot hhold hbad, Nat.zero_add]
      rfl
    have hexec := exec_appendSteps_asked (body := [BitVec.ofNat 8 n.val, BitVec.ofNat 8 (before.length + (k + 1))] ++
      ((before.map stepRecord).flatten ++ rawStep slot hold gap advance mask ++ after)) hask
    rw [appendSteps_owned hmin hmax hlen' hown, if_pos hopen, hread] at hexec
    exact hexec

/-! ## REMOVE_STEPS and DELETE_SEQUENCE (R46, R50) -/

/-- Settles O24: the steps that leave return their records and pins. -/
theorem removedStepsReturnToThePool : Obligations.RemovedStepsReturnToThePool := by
  intro s p n x hown
  refine ⟨fun k hask hopen hmin hmax hbyte => ?_, fun hask hstate => ?_, fun hask hsealed huses => ?_⟩
  · have hk : field1 [BitVec.ofNat 8 n.val, BitVec.ofNat 8 k] 1 = k := Nat.mod_eq_of_lt (show k < 2 ^ 8 by omega)
    have hleft : (x.steps.drop (x.steps.length - k)).length = k := by rw [List.length_drop]; omega
    rw [exec_removeSteps_asked hask, removeSteps,
      ofLength_of_length_eq (show [BitVec.ofNat 8 n.val, BitVec.ofNat 8 k].length = 2 from rfl), field1_seqId,
      openSeq_of_owner _ hown, if_pos hopen]
    dsimp only
    have hmax' : k ≤ (s.seq n).steps.length := hmax
    rw [hk, if_neg (by omega), returnSteps, hleft]
    rfl
  · rw [exec_deleteSequence_asked hask, deleteSequence,
      ofLength_of_length_eq (show [BitVec.ofNat 8 n.val].length = 1 from rfl), field1_seqId, ownedSeq_of_owner _ hown]
    have hfree : ¬ ((s.seq n).state = .sealed ∧ 0 < (s.seq n).uses) := by
      rintro ⟨hsealed, huses⟩
      obtain hopen | ⟨-, hzero⟩ := hstate
      · cases hopen.symm.trans hsealed
      · exact absurd hzero (Nat.ne_of_gt huses)
    dsimp only
    rw [if_neg hfree]
    rfl
  · rw [exec_deleteSequence_asked hask, deleteSequence,
      ofLength_of_length_eq (show [BitVec.ofNat 8 n.val].length = 1 from rfl), field1_seqId, ownedSeq_of_owner _ hown]
    dsimp only
    rw [if_pos ⟨hsealed, huses⟩]
    rfl

end Sys2Proof.Machine

/-! PROOF. The end of a session at the sequence table (R41, R56): the sequences that go, in any order, return their steps and pins
together. -/

namespace Sys2Proof.Machine

set_option Elab.async false

/-! ## Pin releases one after another (R13) -/

section
variable {s t : State}

/-- A slot after a pin release, whatever its count was. -/
theorem slot_pinRelease_sub (l : List SlotId) (s : State) (n : SlotId) :
    (pinRelease l s).slot n =
      if n ∈ l ∧ (s.slot n).pins - l.count n = 0 ∧ (s.slot n).orphan = true then Slot.free
      else { s.slot n with pins := (s.slot n).pins - l.count n } := by
  rw [pinRelease, (foldl_freeOrphan l _).1, (foldl_unpinOne l s).1]

/-- A pin release looks at the slots alone. -/
theorem pinRelease_slots_of (h : s.slots = t.slots) (l : List SlotId) : (pinRelease l s).slots = (pinRelease l t).slots := by
  refine State.slots_ext fun n => ?_
  have hn : s.slot n = t.slot n := by rw [State.slot, h]; rfl
  rw [slot_pinRelease_sub, slot_pinRelease_sub, hn]

/-- Two pin releases in a row leave the slots as one release of both lists does. -/
theorem pinRelease_append (l k : List SlotId) (s : State) :
    (pinRelease (l ++ k) s).slots = (pinRelease k (pinRelease l s)).slots := by
  refine State.slots_ext fun n => ?_
  have hcount : (l ++ k).count n = l.count n + k.count n := List.count_append
  have hfirst := slot_pinRelease_sub l s n
  have hsecond := slot_pinRelease_sub k (pinRelease l s) n
  rw [slot_pinRelease_sub (l ++ k), hcount, ← Nat.sub_sub, hsecond]
  by_cases hl : n ∈ l ∧ (s.slot n).pins - l.count n = 0 ∧ (s.slot n).orphan = true
  · rw [if_pos hl] at hfirst
    obtain ⟨hmem, hzero, horphan⟩ := hl
    have hfree : { Slot.free with pins := Slot.free.pins - k.count n } = Slot.free := by
      rw [show Slot.free.pins - k.count n = 0 from Nat.zero_sub _]
      rfl
    rw [hfirst, hfree, ite_self, if_pos ⟨List.mem_append_left k hmem, by omega, horphan⟩]
  · rw [if_neg hl] at hfirst
    rw [hfirst]
    by_cases hk : n ∈ k
    · simp only [List.mem_append, hk, or_true]
    · have hzero : k.count n = 0 := List.count_eq_zero.mpr hk
      simp only [List.mem_append, hk, or_false, hzero, Nat.sub_zero, hl, false_and, if_false]

end

/-! ## One sequence, and then the table -/

/-- A sequence goes at the end of its owner's session, unless it is SEALED with a use (R56). -/
def goesAtEnd (p : PortId) (s : State) (n : SeqId) : Bool :=
  decide ((s.seq n).owner = some p ∧ ¬ ((s.seq n).state = .sealed ∧ 0 < (s.seq n).uses))

/-- What the end of its owner's session makes of a sequence (R56). -/
def Sequence.endSession (p : PortId) (x : Sequence) : Sequence :=
  if x.owner = some p then
    if x.state = .sealed ∧ 0 < x.uses then { x with owner := none, orphan := true } else Sequence.empty
  else x

/-- The steps of the sequences of a list that go. -/
def stepsAtEnd (p : PortId) (s : State) (l : List SeqId) : List Step := (l.filter (goesAtEnd p s)).flatMap fun n => (s.seq n).steps

section
variable {p : PortId} {s : State}

theorem stepsAtEnd_goes {n : SeqId} (h : goesAtEnd p s n = true) : stepsAtEnd p s [n] = (s.seq n).steps := by
  rw [stepsAtEnd, List.filter_cons_of_pos h, List.filter_nil, List.flatMap_cons, List.flatMap_nil, List.append_nil]

theorem stepsAtEnd_stays {n : SeqId} (h : goesAtEnd p s n = false) : stepsAtEnd p s [n] = [] := by
  rw [stepsAtEnd, List.filter_cons_of_neg (by simp [h]), List.filter_nil, List.flatMap_nil]

/-- One sequence of the table at the end of a session: its record, its steps, and nothing else. -/
theorem endSessionOfSeq_eq (p : PortId) (s : State) (n : SeqId) :
    endSessionOfSeq p s n = pinRelease ((stepsAtEnd p s [n]).map Step.slot)
      { s.setSeq n ((s.seq n).endSession p) with poolFree := s.poolFree + (stepsAtEnd p s [n]).length } := by
  unfold endSessionOfSeq
  dsimp only
  by_cases hown : (s.seq n).owner = some p
  · by_cases hkept : (s.seq n).state = .sealed ∧ 0 < (s.seq n).uses
    · have hrecord : (s.seq n).endSession p = { s.seq n with owner := none, orphan := true } := (if_pos hown).trans (if_pos hkept)
      rw [stepsAtEnd_stays (decide_eq_false fun h => h.2 hkept), if_pos hown, if_pos hkept, hrecord]
      rfl
    · have hrecord : (s.seq n).endSession p = Sequence.empty := (if_pos hown).trans (if_neg hkept)
      rw [stepsAtEnd_goes (decide_eq_true ⟨hown, hkept⟩), if_pos hown, if_neg hkept, hrecord]
      rfl
  · have hrecord : (s.seq n).endSession p = s.seq n := if_neg hown
    rw [stepsAtEnd_stays (decide_eq_false fun h => hown h.1), if_neg hown, hrecord, State.setSeq_seq]
    rfl

theorem seq_endSessionOfSeq (n m : SeqId) :
    (endSessionOfSeq p s n).seq m = if m = n then (s.seq n).endSession p else s.seq m := by
  rw [endSessionOfSeq_eq]
  refine (congrArg (fun v : Vector Sequence 32 => v[m]) (pinRelease_seqs _ _)).trans ?_
  exact State.seq_setSeq s n m _

/-- The steps that go do not depend on sequences outside the list. -/
theorem stepsAtEnd_congr {t : State} {l : List SeqId} (h : ∀ n ∈ l, t.seq n = s.seq n) : stepsAtEnd p t l = stepsAtEnd p s l := by
  have hgoes : l.filter (goesAtEnd p t) = l.filter (goesAtEnd p s) :=
    List.filter_congr fun n hn => by rw [goesAtEnd, goesAtEnd, h n hn]
  unfold stepsAtEnd
  rw [hgoes, List.flatMap_def, List.flatMap_def]
  exact congrArg List.flatten (List.map_congr_left fun n hn => by rw [h n (List.mem_of_mem_filter hn)])

theorem stepsAtEnd_cons (n : SeqId) (l : List SeqId) : stepsAtEnd p s (n :: l) = stepsAtEnd p s [n] ++ stepsAtEnd p s l := by
  unfold stepsAtEnd
  rw [← List.flatMap_append, ← List.filter_append, List.singleton_append]

/-- The sequences of a list, each named once, at the end of a session. -/
theorem foldl_endSessionOfSeq {l : List SeqId} (hl : l.Nodup) (s : State) :
    (∀ m, (l.foldl (endSessionOfSeq p) s).seq m = if m ∈ l then (s.seq m).endSession p else s.seq m)
    ∧ { l.foldl (endSessionOfSeq p) s with slots := s.slots, seqs := s.seqs } =
        { s with poolFree := s.poolFree + (stepsAtEnd p s l).length }
    ∧ (l.foldl (endSessionOfSeq p) s).slots = (pinRelease ((stepsAtEnd p s l).map Step.slot) s).slots := by
  induction l generalizing s with
  | nil => exact ⟨fun m => rfl, rfl, rfl⟩
  | cons n l ih =>
    obtain ⟨hn, hl⟩ := List.nodup_cons.mp hl
    obtain ⟨hseq, hframe, hslots⟩ := ih hl (endSessionOfSeq p s n)
    have hsteps : stepsAtEnd p (endSessionOfSeq p s n) l = stepsAtEnd p s l := stepsAtEnd_congr fun m hm => by
      rw [seq_endSessionOfSeq, if_neg (by rintro rfl; exact hn hm)]
    rw [hsteps] at hframe hslots
    have hfirst : { endSessionOfSeq p s n with slots := s.slots, seqs := s.seqs } =
        { s with poolFree := s.poolFree + (stepsAtEnd p s [n]).length } := by
      rw [endSessionOfSeq_eq]
      exact (congrArg (fun u : State => { u with seqs := s.seqs }) (pinRelease_frame ((stepsAtEnd p s [n]).map Step.slot)
        { s.setSeq n ((s.seq n).endSession p) with poolFree := s.poolFree + (stepsAtEnd p s [n]).length }) :)
    refine ⟨fun m => ?_, ?_, ?_⟩
    · rw [List.foldl_cons, hseq, seq_endSessionOfSeq]
      by_cases hmn : m = n
      · subst hmn
        rw [if_neg hn, if_pos rfl, if_pos List.mem_cons_self]
      · rw [if_neg hmn]
        simp only [List.mem_cons, hmn, false_or]
    · have hpool : (endSessionOfSeq p s n).poolFree = s.poolFree + (stepsAtEnd p s [n]).length :=
        (congrArg State.poolFree hfirst :)
      rw [List.foldl_cons, stepsAtEnd_cons, List.length_append, ← Nat.add_assoc, ← hpool]
      exact (congrArg (fun u : State => { u with slots := s.slots, seqs := s.seqs }) hframe :).trans
        (congrArg (fun u : State =>
          { u with poolFree := (endSessionOfSeq p s n).poolFree + (stepsAtEnd p s l).length }) hfirst :)
    · rw [List.foldl_cons, hslots, stepsAtEnd_cons, List.map_append, pinRelease_append]
      refine pinRelease_slots_of ?_ _
      rw [endSessionOfSeq_eq]
      exact pinRelease_slots_of (by rfl) _

end

/-- Settles O26: the table in its order, with one release of all the pins. -/
theorem sessionEndAtTheSequenceTable : Obligations.SessionEndAtTheSequenceTable := by
  intro s p x before after hs hblock hport hfirst goes steps
  obtain ⟨hseq, hframe, hslots⟩ := foldl_endSessionOfSeq (p := p) (List.nodup_finRange 32)
    { s with announcements := before ++ after }
  refine ⟨_, congrArg Host.Outcome.next (takeAnnouncement_found hs hblock hport hfirst _), hframe, fun n => ?_, hslots.trans ?_⟩
  · rw [hseq, if_pos (List.mem_finRange n)]
    rfl
  · exact pinRelease_slots_of (by rfl) _

end Sys2Proof.Machine

/-! PROOF. The submission queue: SUBMIT and REQUEST_DIRECT (R60, R62 to R65), CANCEL and the end of a session (R67, R68, R74). -/

namespace Sys2Proof.Machine

set_option Elab.async false

/-! ## The order of the queue (R60) -/

/-- An entry joins between the entries of its level or a higher one and the lower ones. -/
theorem joinQueue_placed {e : Entry} {before after : List Entry} (hbefore : ∀ x ∈ before, e.level ≤ x.level)
    (hafter : ∀ x ∈ after, x.level < e.level) : joinQueue e (before ++ after) = before ++ e :: after := by
  induction before with
  | nil =>
    cases after with
    | nil => rfl
    | cons x after => exact if_neg (Nat.not_le.mpr (hafter x List.mem_cons_self))
  | cons x before ih =>
    obtain ⟨hx, hrest⟩ := List.forall_mem_cons.mp hbefore
    rw [List.cons_append, joinQueue, if_pos hx, ih hrest, List.cons_append]

theorem joinPosition_placed {level : Nat} {before after : List Entry} (hbefore : ∀ x ∈ before, level ≤ x.level)
    (hafter : ∀ x ∈ after, x.level < level) : joinPosition level (before ++ after) = before.length := by
  have hall : before.countP (fun x => decide (level ≤ x.level)) = before.length :=
    List.countP_eq_length.mpr fun x hx => decide_eq_true (hbefore x hx)
  have hnone : after.countP (fun x => decide (level ≤ x.level)) = 0 :=
    List.countP_eq_zero.mpr fun x hx => by simpa using hafter x hx
  rw [joinPosition, List.countP_append, hall, hnone, Nat.add_zero]

/-! ## Live tags and direct requests (R64, R65) -/

section
variable {p : PortId} {tag : Word16}

theorem Entry.isPlay_iff {e : Entry} : e.isPlay p tag = true ↔ e.port = p ∧ ∃ m o, e.ask = .play tag m o := by
  unfold Entry.isPlay
  cases e.ask with
  | direct => simp
  | play t m o => simp

theorem Entry.isDirect_iff {e : Entry} : e.isDirect p = true ↔ e.port = p ∧ e.ask = .direct := by
  unfold Entry.isDirect
  simp

theorem Output.named_iff {out : Output} :
    out.named p tag = true ↔ ∃ k c, out = .running k c ∧ c.port = some p ∧ c.tag = tag := by
  cases out <;> simp [Output.named, Context.named]

theorem State.tagLive_iff {s : State} : s.tagLive p tag = true ↔
    (∃ e ∈ s.queue, e.port = p ∧ ∃ m o, e.ask = .play tag m o)
      ∨ (∃ k c, s.player.out = .running k c ∧ c.port = some p ∧ c.tag = tag)
      ∨ (∃ c ∈ s.player.stack, c.port = some p ∧ c.tag = tag) := by
  unfold State.tagLive
  rw [Bool.or_eq_true, Bool.or_eq_true, or_assoc, List.any_eq_true, List.any_eq_true, Output.named_iff]
  refine or_congr ?_ (or_congr Iff.rfl ?_)
  · simp only [Entry.isPlay_iff]
  · simp [Context.named]

theorem Output.directOf_iff {out : Output} : out.directOf p = true ↔ ∃ d, out.directParty = some d ∧ d.1 = p := by
  cases out <;> simp [Output.directOf, Output.directParty]

theorem State.hasDirect_iff {s : State} : s.hasDirect p = true ↔
    (∃ e ∈ s.queue, e.port = p ∧ e.ask = .direct) ∨ (∃ d, s.player.out.directParty = some d ∧ d.1 = p) := by
  unfold State.hasDirect
  rw [Bool.or_eq_true, List.any_eq_true, Output.directOf_iff]
  simp only [Entry.isDirect_iff]

end

/-! ## SUBMIT (R62, R63) -/

section
variable {s : State} {p : PortId} {number level : Byte} {tag : Word16} {override : Nat}

theorem tagAt_tagBytes_at (l : List Byte) (t : Word16) (r : List Byte) : tagAt (l ++ (tagBytes t ++ r)) l.length = t :=
  (tagAt_append_right l (tagBytes t ++ r) 0).trans (tagAt_tagBytes t r)

theorem submit_of_number_ge (h : 32 ≤ number.toNat) :
    submit p ([number, level] ++ tagBytes tag ++ le2 override) s = refuse .badArgument s := by
  rw [submit, ofLength_of_length_eq (show ([number, level] ++ tagBytes tag ++ le2 override).length = 6 from rfl)]
  dsimp only
  rw [show field1 ([number, level] ++ tagBytes tag ++ le2 override) 0 = number.toNat from rfl, seqOf_of_le h]

theorem submit_read {n : SeqId} (hn : number.toNat = n.val) (hoverride : override < 65536) :
    submit p ([number, level] ++ tagBytes tag ++ le2 override) s =
      if level.toNat = 0 ∨ 7 < level.toNat then refuse .badArgument s
      else if level.toNat = 7 ∧ (s.port p).cls = .ordinary then refuse .notPermitted s
      else if tag = 0xFFFF then refuse .badArgument s
      else if s.tagLive p tag then refuse .tagInUse s
      else if Config.queueSize ≤ s.queue.length then refuse .retry s
      else (useRaise n s).elim (refuse .wrongState s) (join { level := level.toNat, port := p, ask := .play tag n override }) := by
  have htag : tagAt ([number, level] ++ tagBytes tag ++ le2 override) 2 = tag := by
    rw [List.append_assoc]
    exact tagAt_tagBytes_at [number, level] tag (le2 override)
  have hfield : field2 ([number, level] ++ tagBytes tag ++ le2 override) 4 = override :=
    (field2_append_right ([number, level] ++ tagBytes tag) (le2 override) 0).trans (field2_le2_nil hoverride)
  rw [submit, ofLength_of_length_eq (show ([number, level] ++ tagBytes tag ++ le2 override).length = 6 from rfl)]
  dsimp only
  rw [show field1 ([number, level] ++ tagBytes tag ++ le2 override) 0 = number.toNat from rfl,
    show field1 ([number, level] ++ tagBytes tag ++ le2 override) 1 = level.toNat from rfl, hn, seqOf_val, htag, hfield]
  dsimp only
  cases useRaise n s <;> rfl

theorem requestDirect_read : requestDirect p [level] s =
    if level.toNat = 0 ∨ 6 < level.toNat then refuse .badArgument s
    else if s.hasDirect p then refuse .wrongState s
    else if Config.queueSize ≤ s.queue.length then refuse .retry s
    else join { level := level.toNat, port := p, ask := .direct } s :=
  ofLength_of_length_eq List.length_singleton

end

theorem join_placed {e : Entry} {s t : State} {before after : List Entry} (hqueue : t.queue = before ++ after)
    (hbefore : ∀ x ∈ before, e.level ≤ x.level) (hafter : ∀ x ∈ after, x.level < e.level) (hs : t.queue = s.queue) :
    join e t = done [BitVec.ofNat 8 before.length, BitVec.ofNat 8 (s.queue.length + 1)]
      { t with queue := before ++ e :: after } := by
  have hplace : joinQueue e t.queue = before ++ e :: after := by rw [hqueue, joinQueue_placed hbefore hafter]
  have hposition : joinPosition e.level t.queue = before.length := by rw [hqueue, joinPosition_placed hbefore hafter]
  rw [join, hplace, hposition, hs]
  rfl

/-- Settles O27: each check in its turn, and then the place of the entry. -/
theorem entriesJoinTheQueue : Obligations.EntriesJoinTheQueue := by
  intro s p joined placed
  refine ⟨fun number level tag override hoverride hask => ?_, fun level hask => ?_⟩
  · intro refused levelled permitted live
    have hexec := exec_submit_asked hask
    refine ⟨fun hge => ?_, fun n hn => ?_⟩
    · rw [submit_of_number_ge hge] at hexec
      exact hexec
    · rw [submit_read hn hoverride] at hexec
      have hlevel : levelled → ¬ (level.toNat = 0 ∨ 7 < level.toNat) := fun ⟨hmin, hmax⟩ => by omega
      have hseven : level = 7 ↔ level.toNat = 7 := ⟨fun h => h ▸ rfl, fun h => BitVec.eq_of_toNat_eq h⟩
      have hclass : (s.port p).cls = .control ↔ ¬ (s.port p).cls = .ordinary := by
        cases (s.port p).cls <;> simp
      have hpermitted : permitted → ¬ (level.toNat = 7 ∧ (s.port p).cls = .ordinary) := fun h hbad =>
        hclass.mp (h (hseven.mpr hbad.1)) hbad.2
      refine ⟨fun hl => ?_, fun hl hp => ?_, fun hl hp ht => ?_, fun hl hp ht hlive => ?_, fun hl hp ht hlive hfull => ?_,
        fun hl hp ht hlive hroom => ⟨fun hstate => ?_, fun hstate before after hplaced => ?_⟩⟩
      · rw [if_pos (show level.toNat = 0 ∨ 7 < level.toNat by
          by_contra h
          exact hl ⟨by omega, by omega⟩)] at hexec
        exact hexec
      · have hbad : level.toNat = 7 ∧ (s.port p).cls = .ordinary := by
          by_contra h
          exact hp fun h7 => hclass.mpr fun hord => h ⟨hseven.mp h7, hord⟩
        rw [if_neg (hlevel hl), if_pos hbad] at hexec
        exact hexec
      · rw [if_neg (hlevel hl), if_neg (hpermitted hp), if_pos ht] at hexec
        exact hexec
      · rw [if_neg (hlevel hl), if_neg (hpermitted hp), if_neg ht, if_pos (State.tagLive_iff.mpr hlive)] at hexec
        exact hexec
      · rw [if_neg (hlevel hl), if_neg (hpermitted hp), if_neg ht, if_neg (mt State.tagLive_iff.mp hlive),
          if_pos (show Config.queueSize ≤ s.queue.length from hfull)] at hexec
        exact hexec
      · have hraise : useRaise n s = none := if_neg hstate
        rw [if_neg (hlevel hl), if_neg (hpermitted hp), if_neg ht, if_neg (mt State.tagLive_iff.mp hlive),
          if_neg (show ¬ Config.queueSize ≤ s.queue.length from Nat.not_le.mpr hroom), hraise] at hexec
        exact hexec
      · obtain ⟨hqueue, hbefore, hafter⟩ := hplaced
        rw [if_neg (hlevel hl), if_neg (hpermitted hp), if_neg ht, if_neg (mt State.tagLive_iff.mp hlive),
          if_neg (show ¬ Config.queueSize ≤ s.queue.length from Nat.not_le.mpr hroom), useRaise_of_sealed hstate, Option.elim_some,
          join_placed (s := s) (t := s.setSeq n { s.seq n with uses := (s.seq n).uses + 1 })
            (e := { level := level.toNat, port := p, ask := .play tag n override }) hqueue hbefore hafter rfl] at hexec
        exact hexec
  · intro refused levelled has
    have hexec := exec_requestDirect_asked hask
    rw [requestDirect_read] at hexec
    have hlevel : levelled → ¬ (level.toNat = 0 ∨ 6 < level.toNat) := fun ⟨hmin, hmax⟩ => by omega
    refine ⟨fun hl => ?_, fun hl hhas => ?_, fun hl hhas hfull => ?_, fun hl hhas hroom before after hplaced => ?_⟩
    · rw [if_pos (show level.toNat = 0 ∨ 6 < level.toNat by
        by_contra h
        exact hl ⟨by omega, by omega⟩)] at hexec
      exact hexec
    · rw [if_neg (hlevel hl), if_pos (State.hasDirect_iff.mpr hhas)] at hexec
      exact hexec
    · rw [if_neg (hlevel hl), if_neg (mt State.hasDirect_iff.mp hhas),
        if_pos (show Config.queueSize ≤ s.queue.length from hfull)] at hexec
      exact hexec
    · obtain ⟨hqueue, hbefore, hafter⟩ := hplaced
      rw [if_neg (hlevel hl), if_neg (mt State.hasDirect_iff.mp hhas),
        if_neg (show ¬ Config.queueSize ≤ s.queue.length from Nat.not_le.mpr hroom),
        join_placed (s := s) (e := { level := level.toNat, port := p, ask := .direct }) hqueue hbefore hafter rfl] at hexec
      exact hexec

/-! ## CANCEL at the queue (R67, R68) -/

section
variable {s : State} {p q : PortId} {tag : Word16}

theorem cancelChecks_read (hmay : (s.port p).cls = .control ∨ q = p) (htag : tag ≠ 0xFFFF) :
    cancelChecks p (portByte q ++ tagBytes tag) s =
      (s.queue.find? (Entry.isPlay q tag)).elim (.pass .passedCancel) fun e => .answer (done [] (removeEntry p e s)) := by
  have htag' : tagAt (portByte q ++ tagBytes tag) 1 = tag := by
    have h := tagAt_tagBytes_at (portByte q) tag []
    rwa [List.append_nil] at h
  have hq : field1 (portByte q ++ tagBytes tag) 0 = q.val :=
    Nat.mod_eq_of_lt (show q.val < 2 ^ 8 by have := q.isLt; omega)
  have hlen : ¬ (portByte q ++ tagBytes tag).length ≠ 3 := fun h => h rfl
  have hpermitted : ¬ ((s.port p).cls = .ordinary ∧ q ≠ p) := by
    rintro ⟨hord, hne⟩
    obtain hcontrol | heq := hmay
    · rw [hcontrol] at hord
      cases hord
    · exact hne heq
  rw [cancelChecks, if_neg hlen, htag', if_neg htag, hq, portOf_val]
  simp only [if_neg hpermitted]
  cases s.queue.find? (Entry.isPlay q tag) <;> rfl

theorem cancelChecks_fallback (hcls : (s.port p).cls = .control) :
    cancelChecks p (portByte q ++ [0xFF, 0xFF]) s = .pass .passedFallback := by
  have htag : tagAt (portByte q ++ [0xFF, 0xFF]) 1 = 0xFFFF := tagAt_append_right (portByte q) [0xFF, 0xFF] 0
  have hlen : ¬ (portByte q ++ [0xFF, 0xFF]).length ≠ 3 := fun h => h rfl
  rw [cancelChecks, if_neg hlen, if_pos htag, if_pos hcls]

theorem exec_cancel_answered {body : List Byte} {r : State × Answer} (hask : Asked s p .cancel (.atBlock .queue) body)
    (h : cancelChecks p body s = .answer r) : exec (.cancel p) s = .next (r.1.reply p r.2) := by
  rw [exec_cancel_asked hask, h]

theorem exec_cancel_passed {body : List Byte} {place : Place} (hask : Asked s p .cancel (.atBlock .queue) body)
    (h : cancelChecks p body s = .pass place) : exec (.cancel p) s = .next (s.moveRequest p place) := by
  rw [exec_cancel_asked hask, h]

theorem not_isPlay {l : List Entry} (h : ∀ x ∈ l, ∀ m o, x.ask = .play tag m o → x.port ≠ q) :
    l.find? (Entry.isPlay q tag) = none :=
  List.find?_eq_none.mpr fun x hx hplay => by
    obtain ⟨hport, m, o, hask⟩ := Entry.isPlay_iff.mp hplay
    exact h x hx m o hask hport

end

/-- Settles O28: the entry that a CANCEL names, or none; and the entries of a port whose session has ended. -/
theorem entriesLeaveTheQueue : Obligations.EntriesLeaveTheQueue := by
  intro s p q tag
  refine ⟨fun hask hmay htag => ⟨fun before after e n o hqueue hport hplay hfirst => ?_, fun hnone => ?_⟩, fun hask hcls => ?_,
    fun x before after hs hblock hport hfirst => ?_⟩
  · have hplays : e.isPlay q tag = true := Entry.isPlay_iff.mpr ⟨hport, n, o, hplay⟩
    have hbefore : before.find? (Entry.isPlay q tag) = none := not_isPlay hfirst
    have hfind : s.queue.find? (Entry.isPlay q tag) = some e := by
      rw [hqueue, List.find?_append, hbefore, List.find?_cons_of_pos hplays]
      rfl
    have herase : s.queue.erase e = before ++ after := by
      have hnot : e ∉ before := fun hmem => by
        have := List.find?_eq_none.mp hbefore e hmem
        exact this hplays
      rw [hqueue, List.erase_append_right (e :: after) hnot, List.erase_cons_head]
    have hanswer : cancelChecks p (portByte q ++ tagBytes tag) s = .answer (done [] (removeEntry p e s)) := by
      rw [cancelChecks_read hmay htag, hfind]
      rfl
    refine (exec_cancel_answered hask hanswer).trans ?_
    rw [removeEntry, herase, releaseEntry, hplay, hport]
    rfl
  · refine exec_cancel_passed hask ?_
    rw [cancelChecks_read hmay htag, not_isPlay hnone]
    rfl
  · exact exec_cancel_passed hask (cancelChecks_fallback hcls)
  · have hkept : (s.queue.filter fun e => e.port != p) = s.queue.filter fun e => e.port ≠ p :=
      List.filter_congr fun e _ => by rw [bne, beq_eq_decide, decide_not]
    have hgone : (s.queue.filter fun e => e.port == p) = s.queue.filter fun e => e.port = p :=
      List.filter_congr fun e _ => beq_eq_decide e.port p
    refine ⟨_, congrArg Host.Outcome.next (takeAnnouncement_found hs hblock hport hfirst _), ?_, ?_, ?_⟩
    · unfold removeEntriesOf
      rw [hkept, hgone]
    · refine (foldl_keeps (f := releaseEntry) State.queue (fun u e => ?_) _ _).trans hkept
      unfold releaseEntry
      split
      · exact useRelease_queue _ _
      · rfl
    · exact foldl_keeps (f := releaseEntry) State.ports (fun u e => releaseEntry_ports u e) _ _

end Sys2Proof.Machine

/-! PROOF. The trigger unit (R106 to R109, R112, R115), the driver-ready line and the driver's answers (R118 to R128), and the light
limits (R130, R131). -/

namespace Sys2Proof.Machine

set_option Elab.async false

/-! ## CONFIGURE_TRIGGERS (R107) -/

theorem boolOf_byte {b : Byte} (h : b.toNat ≤ 1) : boolOf b.toNat = some (b == 1) := by
  obtain h0 | h1 : b.toNat = 0 ∨ b.toNat = 1 := by omega
  · obtain rfl : b = 0 := BitVec.eq_of_toNat_eq h0
    rfl
  · obtain rfl : b = 1 := BitVec.eq_of_toNat_eq h1
    rfl

theorem boolOf_none {n : Nat} (h : 1 < n) : boolOf n = none := by
  rw [boolOf, if_neg (by omega), if_neg (by omega)]

section
variable {s : State} {p : PortId} {ea fa eb fb lo hi : Byte}

theorem configureTriggers_bad (hcls : (s.port p).cls = .control)
    (hbad : 1 < ea.toNat ∨ 1 < fa.toNat ∨ 1 < eb.toNat ∨ 1 < fb.toNat) :
    configureTriggers p [ea, fa, eb, fb, lo, hi] s = refuse .badArgument s := by
  rw [configureTriggers, ofLength_of_length_eq (show [ea, fa, eb, fb, lo, hi].length = 6 from rfl), controlOnly_of_control hcls]
  show (match boolOf ea.toNat, boolOf fa.toNat, boolOf eb.toNat, boolOf fb.toNat with
    | some ea, some fa, some eb, some fb =>
      done s.trig.configBytes
        { s with trig := { s.trig with
          cfgA := { enabled := ea, falling := fa }, cfgB := { enabled := eb, falling := fb }
          timeout := field2 [_, _, _, _, lo, hi] 4 } }
    | _, _, _, _ => refuse .badArgument s) = _
  split
  next hea hfa heb hfb =>
    obtain h | h | h | h := hbad
    · rw [boolOf_none h] at hea; cases hea
    · rw [boolOf_none h] at hfa; cases hfa
    · rw [boolOf_none h] at heb; cases heb
    · rw [boolOf_none h] at hfb; cases hfb
  · rfl

theorem configureTriggers_good (hcls : (s.port p).cls = .control) (hea : ea.toNat ≤ 1) (hfa : fa.toNat ≤ 1) (heb : eb.toNat ≤ 1)
    (hfb : fb.toNat ≤ 1) :
    configureTriggers p [ea, fa, eb, fb, lo, hi] s = done s.trig.configBytes
      { s with trig := { s.trig with
        cfgA := { enabled := ea == 1, falling := fa == 1 }
        cfgB := { enabled := eb == 1, falling := fb == 1 }
        timeout := lo.toNat + 256 * hi.toNat } } := by
  rw [configureTriggers, ofLength_of_length_eq (show [ea, fa, eb, fb, lo, hi].length = 6 from rfl), controlOnly_of_control hcls]
  rw [show field1 [ea, fa, eb, fb, lo, hi] 0 = ea.toNat from rfl, show field1 [ea, fa, eb, fb, lo, hi] 1 = fa.toNat from rfl,
    show field1 [ea, fa, eb, fb, lo, hi] 2 = eb.toNat from rfl, show field1 [ea, fa, eb, fb, lo, hi] 3 = fb.toNat from rfl,
    boolOf_byte hea, boolOf_byte hfa, boolOf_byte heb, boolOf_byte hfb]
  rfl

/-- The configuration as the reply carries it. -/
theorem configBytes_eq (t : Trigger) :
    t.configBytes = [if t.cfgA.enabled = true then (1 : Byte) else 0, if t.cfgA.falling = true then 1 else 0,
      if t.cfgB.enabled = true then 1 else 0, if t.cfgB.falling = true then 1 else 0] ++ le2 t.timeout := by
  unfold Trigger.configBytes
  rw [flag_bytes, flag_bytes, flag_bytes, flag_bytes]
  rfl

end

/-- Settles O41: each refusal in its turn, and the whole configuration set together. -/
theorem configureTriggersSetsBothInputs : Obligations.ConfigureTriggersSetsBothInputs := by
  intro s p body hask
  simp only [exec_configureTriggers_asked hask]
  refine ⟨fun hlen => ?_, fun hlen hcls => ?_, fun ea fa eb fb lo hi hbody hcls => ⟨fun hbad => ?_, fun hea hfa heb hfb => ?_⟩⟩
  · rw [configureTriggers, ofLength_of_length_ne hlen]
    rfl
  · rw [configureTriggers, ofLength_of_length_eq hlen, controlOnly_of_ordinary hcls]
    rfl
  · rw [hbody, configureTriggers_bad hcls hbad]
    rfl
  · rw [hbody, configureTriggers_good hcls hea hfa heb hfb, configBytes_eq]
    rfl

/-! ## Arrivals (R108, R109) -/

section
variable {s : State} {x : Source}

theorem outcome_pending {t : Trigger} (h : (t.latch x).pending = true) : t.outcome x = .overrun := if_pos h

theorem outcome_waited {t : Trigger} {w : Wait} (h : (t.latch x).pending = false) (hw : t.wait = some w) (hx : w.source = x) :
    t.outcome x = .consumed := by
  rw [Trigger.outcome, if_neg (by simp [h]), hw]
  exact if_pos hx

theorem outcome_latched {t : Trigger} (h : (t.latch x).pending = false) (hw : ∀ w, t.wait = some w → w.source ≠ x) :
    t.outcome x = .latched := by
  rw [Trigger.outcome, if_neg (by simp [h])]
  cases hwait : t.wait with
  | none => rfl
  | some w => exact if_neg (hw w hwait)

theorem triggerArrival_lost (h : (s.trig.latch x).pending = true) (ho : (s.trig.latch x).overrun = true) :
    triggerArrival x s = s := by
  unfold triggerArrival
  rw [outcome_pending h]
  exact if_pos ho

theorem triggerArrival_overrun (h : (s.trig.latch x).pending = true) (ho : (s.trig.latch x).overrun = false) :
    triggerArrival x s =
      ({ s with trig := s.trig.setLatch x { pending := true, overrun := true } } : State).notifyControl (.triggerOverrun x) := by
  unfold triggerArrival
  rw [outcome_pending h]
  dsimp only
  rw [if_neg (by simp [ho]), h]

theorem triggerArrival_consumed {w : Wait} (h : (s.trig.latch x).pending = false) (hw : s.trig.wait = some w)
    (hx : w.source = x) :
    triggerArrival x s =
      { s with trig := { s.trig with wait := none }, fromTrig := s.fromTrig ++ [.consumption w.holder.number] } := by
  unfold triggerArrival
  rw [outcome_waited h hw hx]
  simp only [hw]

theorem triggerArrival_latched (h : (s.trig.latch x).pending = false) (hw : ∀ w, s.trig.wait = some w → w.source ≠ x) :
    triggerArrival x s = { s with trig := s.trig.setLatch x { s.trig.latch x with pending := true } } := by
  unfold triggerArrival
  rw [outcome_latched h hw]

theorem mayTrigger_iff {p : PortId} : mayTrigger p s = true ↔
    (s.port p).cls = .control ∨ (∃ k c, s.player.out = .running k c ∧ c.port = some p)
      ∨ ∃ k d, s.player.out = .direct k d ∧ d.port = p := by
  unfold mayTrigger
  rw [Bool.or_eq_true, beq_iff_eq]
  refine or_congr Iff.rfl ?_
  cases s.player.out <;> simp

theorem outcome_code (t : Trigger) : u8 (t.outcome .soft).code =
    [if t.latchSoft.pending = true then 2 else if t.wait.map Wait.source = some .soft then 0 else 1] := by
  cases hpending : t.latchSoft.pending with
  | true =>
    rw [outcome_pending (x := .soft) hpending]
    rfl
  | false =>
    rw [if_neg Bool.false_ne_true]
    by_cases hw : t.wait.map Wait.source = some .soft
    · obtain ⟨w, hwait, hx⟩ := Option.map_eq_some_iff.mp hw
      rw [outcome_waited (x := .soft) hpending hwait hx, if_pos hw]
      rfl
    · have hnot : ∀ w, t.wait = some w → w.source ≠ .soft := fun w hwait hx => hw (by rw [hwait]; exact congrArg some hx)
      rw [outcome_latched (x := .soft) hpending hnot, if_neg hw]
      rfl

end

/-- Settles O42: an arrival by the latch and the wait, wherever it comes from; and the two timers. -/
theorem triggersArriveAndTimersEnd : Obligations.TriggersArriveAndTimersEnd := by
  intro s arrived
  have harrived : ∀ x u, triggerArrival x u = arrived x u := by
    intro x u
    dsimp only [arrived]
    cases hpending : (u.trig.latch x).pending with
    | true =>
      rw [if_pos rfl]
      cases hoverrun : (u.trig.latch x).overrun with
      | true => exact triggerArrival_lost hpending hoverrun
      | false => exact triggerArrival_overrun hpending hoverrun
    | false =>
      rw [if_neg Bool.false_ne_true]
      cases hwait : u.trig.wait with
      | none => exact triggerArrival_latched hpending (by simp [hwait])
      | some w =>
        dsimp only
        by_cases hx : w.source = x
        · rw [if_pos hx]
          exact triggerArrival_consumed hpending hwait hx
        · rw [if_neg hx]
          exact triggerArrival_latched hpending (by rintro v hv; rw [hwait] at hv; cases hv; exact hx)
  have hlevel : ∀ i level, s.resetLow = false → (s.trig.input i).1 ≠ level →
      exec (.recognisedLevelChange i level) s = .next
        (if (s.trig.input i).2.1.enabled = true ∧ (s.trig.input i).2.1.falling = !level then
          triggerArrival (s.trig.input i).2.2 { s with trig := s.trig.setLevel i level }
        else { s with trig := s.trig.setLevel i level }) := fun i level hlow hne =>
    congrArg Host.Outcome.next (if_neg (by simp [hlow, hne]))
  refine ⟨fun level hlow hne => ?_, fun level hlow hne => ?_, fun p hask => ⟨fun hmay => ?_, fun hcls hrun hdirect => ?_⟩,
    fun w d hwait htimer => ?_, fun d hsync => ?_⟩
  · rw [hlevel .a level hlow hne, harrived]
    rfl
  · rw [hlevel .b level hlow hne, harrived]
    rfl
  · rw [exec_trigger_asked hask, softTrigger, ofLength_of_length_eq List.length_nil, if_pos (mayTrigger_iff.mpr hmay), ← harrived,
      ← outcome_code]
    rfl
  · have hnot : ¬ mayTrigger p s = true := by
      rw [mayTrigger_iff]
      rintro (hcontrol | ⟨k, c, hout, hport⟩ | ⟨k, d, hout, hport⟩)
      · rw [hcls] at hcontrol
        cases hcontrol
      · exact hrun k c hout hport
      · exact hdirect k d hout hport
    rw [exec_trigger_asked hask, softTrigger, ofLength_of_length_eq List.length_nil, if_neg hnot]
    rfl
  · have htime : s.trig.wait.bind Wait.timer = some d := by rw [hwait, Option.bind_some, htimer]
    have helapsed : (s.elapse d).trig.wait = some { w with timer := timerAfter d w.timer } := by
      show s.trig.wait.map _ = _
      rw [hwait]
      rfl
    refine congrArg Host.Outcome.next ?_
    rw [htime, expire_some, helapsed]
    rfl
  · refine congrArg Host.Outcome.next ?_
    rw [hsync, expire_some]

/-! ## DRV_RDY (R119, R120) -/

/-- Settles O43: each edge in the one state, or the states, in which it means something. -/
theorem driverReadyChangesTheLink : Obligations.DriverReadyChangesTheLink := fun s => by
  refine ⟨fun hnot => congrArg Host.Outcome.next (if_neg hnot), fun hdown hlow => ?_⟩
  refine congrArg Host.Outcome.next ((if_pos ⟨hdown, hlow⟩).trans ?_)
  rw [linkComesUp, hdown]
  rfl

end Sys2Proof.Machine

/-! PROOF. The driver's answers (R121 to R128) and the light limits (R130, R131). -/

namespace Sys2Proof.Machine

set_option Elab.async false

/-! ## The link becomes IDLE (R123) -/

theorem becomeIdle_blank {s : State} (h : s.link.pendingBlank = true) :
    becomeIdle s = { s with link := ({ s.link with state := .idle, timer := none } : Link).sendBlank } :=
  if_pos h

/-- With no blank pending and no load waiting, the link is IDLE and nothing is sent. -/
theorem becomeIdle_quiet {s : State} (h : s.link.pendingBlank = false)
    (hidentity : ∀ i, s.link.identity = some i → i.stage ≠ .pending) :
    becomeIdle s = { s with link := { s.link with state := .idle, timer := none } } := by
  refine (if_neg (by simp [h])).trans ?_
  dsimp only
  split
  next i hi => exact if_neg (hidentity i hi)
  · rfl

/-! ## Answers to a LOAD (R124) -/

section
variable {s : State} {i : Identity} {reason : Byte}

theorem exec_loadedAnswer (hstate : s.link.state = .awaitLoaded) (hignore : s.link.ignore = false)
    (hidentity : s.link.identity = some i) :
    exec .loadedAnswer s = .next (becomeIdle (toPlayer (.loaded i.holder.number i.idx)
      { s with link := { s.link with identity := some { i with stage := .loaded }, msgSlot := none, readCrc := none } })) := by
  refine congrArg Host.Outcome.next ((if_pos hstate).trans ((if_neg (by simp [hignore])).trans ?_))
  rw [hidentity]

theorem exec_rejectedAnswer (hstate : s.link.state = .awaitLoaded) (hreason : reason ≠ 0) (hignore : s.link.ignore = false)
    (hidentity : s.link.identity = some i) :
    exec (.rejectedAnswer reason) s = .next (becomeIdle (toPlayer (.fault (i.fault .linkReject (some reason)))
      { s with link := { s.link with identity := none, msgSlot := none, readCrc := none } })) := by
  refine congrArg Host.Outcome.next ((if_pos ⟨hstate, hreason⟩).trans ((if_neg (by simp [hignore])).trans ?_))
  rw [hidentity]

theorem exec_loadedAnswer_ignored (hstate : s.link.state = .awaitLoaded) (hignore : s.link.ignore = true) :
    exec .loadedAnswer s =
      .next (becomeIdle { s with link := { s.link with ignore := false, msgSlot := none, readCrc := none } }) :=
  congrArg Host.Outcome.next ((if_pos hstate).trans (if_pos hignore))

theorem exec_rejectedAnswer_ignored (hstate : s.link.state = .awaitLoaded) (hreason : reason ≠ 0) (hignore : s.link.ignore = true) :
    exec (.rejectedAnswer reason) s =
      .next (becomeIdle { s with link := { s.link with ignore := false, msgSlot := none, readCrc := none } }) :=
  congrArg Host.Outcome.next ((if_pos ⟨hstate, hreason⟩).trans (if_pos hignore))

/-- A link whose ignore flag is clear already. -/
theorem Link.ignore_eta {l : Link} (h : l.ignore = false) : { l with ignore := false } = l := by
  cases l
  cases h
  rfl

/-! ## Verify (R128) and the answer timer (R121) -/

theorem verifyFails_iff {damage : Crc32} (hignore : s.link.ignore = false) : verifyFails i damage s = true ↔
    i.verify = true ∧ s.link.readCrc ≠ some (crc32 (planeData s.planeMem i.slot) ^^^ damage) := by
  unfold verifyFails
  simp [hignore]

theorem timeoutFault_awaited (hignore : s.link.ignore = false) (hstate : s.link.state = .awaitLoaded ∨ s.link.state = .awaitSwapped)
    (hidentity : s.link.identity = some i) : s.link.timeoutFault = .named (i.fault .linkTimeout none) := by
  have hnot : s.link.state ≠ .awaitBlanked := by
    obtain h | h := hstate <;> simp [h]
  unfold Link.timeoutFault
  rw [hidentity]
  exact if_pos (.inl ⟨hignore, hnot⟩)

theorem exec_answerTimerExpiry {d : Nat} (hawait : s.link.state.awaiting = true) (htimer : s.link.timer = some d) :
    exec .answerTimerExpiry s = .next (toPlayer (.report false s.link.timeoutFault)
      (linkChanged s.link.state { s.elapse d with link := { s.link with
        state := .failed, identity := none, ignore := false, timer := none, display := .unknown, msgSlot := none
        readCrc := none } })) := by
  refine congrArg Host.Outcome.next ((if_pos hawait).trans ?_)
  rw [htimer]
  rfl

end

/-! ## Answer codes (R179) -/

/-- A code byte that is none of the four is no answer. -/
theorem answerRow_other {code : Byte} (h81 : code ≠ 0x81) (h82 : code ≠ 0x82) (h83 : code ≠ 0x83) (h84 : code ≠ 0x84)
    (more : List Byte) : answerRow (code :: more) = none := by
  have hne : ∀ c : Byte, code ≠ c → code.toNat ≠ c.toNat := fun c h e => h (BitVec.eq_of_toNat_eq e)
  match more with
  | [] =>
    show (match code.toNat with
      | 0x81 => some Instr.loadedAnswer
      | 0x83 => some .swappedAnswer
      | 0x84 => some .blankedAnswer
      | _ => none) = none
    split
    next h => exact absurd h (hne _ h81)
    next h => exact absurd h (hne _ h83)
    next h => exact absurd h (hne _ h84)
    · rfl
  | [reason] => exact if_neg h82
  | _ :: _ :: _ => rfl

/-- Settles O44: each answer in the state that awaits it, and in the others. -/
theorem linkAnswersAreTaken : Obligations.LinkAnswersAreTaken := by
  intro s i damage reason named idle
  refine ⟨fun hignore hblank => ⟨fun hstate hidentity => ?_, fun hstate hidentity => ⟨?_, fun hreason => ?_⟩,
      fun n hstate hidentity hslot => ?_, fun hstate hidentity => ?_, fun d hstate hidentity htimer => ?_⟩,
    fun hignore hblank hstate hidentity => ⟨?_, fun hreason => ?_⟩, fun hignore hblank hstate hidentity => ?_,
    fun hnot => ⟨congrArg Host.Outcome.next (if_neg hnot), congrArg Host.Outcome.next (if_neg fun h => hnot h.1)⟩,
    congrArg Host.Outcome.next (if_neg fun h => h.2 rfl), fun hnot => congrArg Host.Outcome.next (if_neg hnot),
    fun hnot => congrArg Host.Outcome.next (if_neg hnot), fun n hsent => ?_, fun hsent => ?_, fun hsent => ?_, rfl, rfl, rfl, rfl,
    fun code more h81 h82 h83 h84 => answerRow_other h81 h82 h83 h84 more⟩
  · refine congrArg Host.Outcome.next ((if_pos hstate).trans ?_)
    rw [hidentity]
    dsimp only
    simp only [verifyFails_iff hignore]
    rfl
  · refine (exec_loadedAnswer hstate hignore hidentity).trans (congrArg Host.Outcome.next ((becomeIdle_quiet ?_ ?_).trans ?_))
    · exact hblank
    · rintro j ⟨⟩
      exact nofun
    · simp only [toPlayer, hignore, idle]
  · refine (exec_rejectedAnswer hstate hreason hignore hidentity).trans
      (congrArg Host.Outcome.next ((becomeIdle_quiet ?_ ?_).trans ?_))
    · exact hblank
    · exact fun j hj => nomatch hj
    · simp only [toPlayer, hignore, idle, named, Identity.fault]
  · refine congrArg Host.Outcome.next ((if_pos hstate).trans ((if_neg (by simp [hignore])).trans ?_))
    rw [hidentity, Link.swappedDisplay, hslot]
    exact becomeIdle_quiet hblank (fun j hj => nomatch hj)
  · refine congrArg Host.Outcome.next ((if_pos hstate).trans ?_)
    exact becomeIdle_quiet hblank (fun j hj => nomatch hidentity.symm.trans hj)
  · have hawait : s.link.state.awaiting = true := by
      obtain h | h := hstate <;> rw [h] <;> rfl
    rw [exec_answerTimerExpiry hawait htimer, timeoutFault_awaited hignore hstate hidentity]
    rfl
  · refine (exec_loadedAnswer_ignored hstate hignore).trans (congrArg Host.Outcome.next ((becomeIdle_quiet ?_ ?_).trans ?_))
    · exact hblank
    · exact fun j hj => nomatch hidentity.symm.trans hj
    · simp only [hidentity, idle]
  · refine (exec_rejectedAnswer_ignored hstate hreason hignore).trans
      (congrArg Host.Outcome.next ((becomeIdle_quiet ?_ ?_).trans ?_))
    · exact hblank
    · exact fun j hj => nomatch hidentity.symm.trans hj
    · simp only [hidentity, idle]
  · refine (exec_loadedAnswer hstate hignore hidentity).trans (congrArg Host.Outcome.next (becomeIdle_blank ?_))
    exact hblank
  · rw [State.plData, hsent]
    rfl
  · rw [State.plData, hsent]
    rfl
  · rw [State.plData, hsent]
    rfl

/-! ## Light limits (R130, R131) -/

/-- The fault that a channel raises when it is forced off (R130). -/
def limitFault (h : HolderRef) : RaisedFault := { kind := .lightLimit, number := h.number, item := none, reason := none }

/-- A channel that has been forced off (R130). -/
def Light.forced (x : Light) : Light := { x.off with trip := true }

theorem forceOff_eq (c : ChannelId) (s : State) :
    forceOff c s = { s.setLight c (s.light c).forced with
      fromLights := s.fromLights ++ ((s.light c).holder.map limitFault).toList } := by
  unfold forceOff
  dsimp only
  cases (s.light c).holder with
  | none =>
    show s.setLight c _ = { s.setLight c _ with fromLights := s.fromLights ++ [] }
    rw [List.append_nil]
    rfl
  | some h => rfl

/-- Channels of a list, each named once, forced off when they are past their limits: the channels and the faults raised. -/
theorem foldl_forceIfPast {l : List ChannelId} (hl : l.Nodup) (s : State) :
    (∀ c, (l.foldl forceIfPast s).light c = if c ∈ l ∧ (s.light c).pastLimit = true then (s.light c).forced else s.light c)
    ∧ { l.foldl forceIfPast s with lights := s.lights } =
        { s with fromLights := s.fromLights ++
          (l.filter fun c => (s.light c).pastLimit).flatMap fun c => ((s.light c).holder.map limitFault).toList } := by
  induction l generalizing s with
  | nil => exact ⟨fun c => by simp, by simp⟩
  | cons d l ih =>
    obtain ⟨hd, hl⟩ := List.nodup_cons.mp hl
    have hstep : ∀ c, (forceIfPast s d).light c = if c = d ∧ (s.light c).pastLimit = true then (s.light c).forced else s.light c := by
      intro c
      unfold forceIfPast
      split
      next hpast =>
        rw [forceOff_eq]
        refine (State.light_setLight s d c _).trans ?_
        by_cases hc : c = d
        · subst hc
          rw [if_pos rfl, if_pos ⟨rfl, hpast⟩]
        · rw [if_neg hc, if_neg fun h => hc h.1]
      next hpast =>
        rw [if_neg]
        rintro ⟨rfl, h⟩
        exact hpast h
    have hother : ∀ c ∈ l, (forceIfPast s d).light c = s.light c := fun c hc => by
      rw [hstep, if_neg]
      rintro ⟨rfl, -⟩
      exact hd hc
    obtain ⟨hlights, hframe⟩ := ih hl (forceIfPast s d)
    have hfilter : (l.filter fun c => ((forceIfPast s d).light c).pastLimit) = l.filter fun c => (s.light c).pastLimit :=
      List.filter_congr fun c hc => by rw [hother c hc]
    have hfaults : ((l.filter fun c => (s.light c).pastLimit).flatMap fun c =>
        (((forceIfPast s d).light c).holder.map limitFault).toList) =
        (l.filter fun c => (s.light c).pastLimit).flatMap fun c => ((s.light c).holder.map limitFault).toList := by
      rw [List.flatMap_def, List.flatMap_def]
      exact congrArg List.flatten (List.map_congr_left fun c hc => by rw [hother c (List.mem_of_mem_filter hc)])
    rw [hfilter, hfaults] at hframe
    refine ⟨fun c => ?_, ?_⟩
    · rw [List.foldl_cons, hlights, hstep]
      by_cases hc : c = d
      · subst hc
        simp only [hd, false_and, if_false, true_and, List.mem_cons, true_or]
      · simp only [hc, false_and, if_false, List.mem_cons, false_or]
    · have hfirst : { forceIfPast s d with lights := s.lights } =
          { s with fromLights := s.fromLights ++
            ([d].filter fun c => (s.light c).pastLimit).flatMap fun c => ((s.light c).holder.map limitFault).toList } := by
        unfold forceIfPast
        cases hpast : (s.light d).pastLimit with
        | true =>
          have honly : ([d].filter fun c => (s.light c).pastLimit) = [d] := List.filter_cons_of_pos hpast
          rw [if_pos rfl, forceOff_eq, honly, List.flatMap_cons, List.flatMap_nil, List.append_nil]
          rfl
        | false =>
          have hnone : ([d].filter fun c => (s.light c).pastLimit) = [] := List.filter_cons_of_neg (by simp [hpast])
          rw [if_neg Bool.false_ne_true, hnone, List.flatMap_nil, List.append_nil]
      have hfrom : (forceIfPast s d).fromLights = s.fromLights ++
          ([d].filter fun c => (s.light c).pastLimit).flatMap fun c => ((s.light c).holder.map limitFault).toList :=
        (congrArg State.fromLights hfirst :)
      rw [List.foldl_cons, ← List.singleton_append, List.filter_append, List.flatMap_append, ← List.append_assoc, ← hfrom]
      exact (congrArg (fun u : State => { u with lights := s.lights }) hframe :).trans
        (congrArg (fun u : State => { u with fromLights := (forceIfPast s d).fromLights ++
          (l.filter fun c => (s.light c).pastLimit).flatMap fun c => ((s.light c).holder.map limitFault).toList }) hfirst :)

/-- The faults of channels that are lit for `holders`, in their order. -/
theorem flatMap_limitFaults {g : ChannelId → Option HolderRef} {forced : List ChannelId} {holders : List HolderRef}
    (h : forced.map g = holders.map some) :
    (forced.flatMap fun c => ((g c).map limitFault).toList) = holders.map limitFault := by
  calc (forced.flatMap fun c => ((g c).map limitFault).toList)
      = (forced.map g).flatMap fun x => (x.map limitFault).toList := by rw [List.flatMap_map]
    _ = holders.flatMap fun x => [limitFault x] := by rw [h, List.flatMap_map]; rfl
    _ = holders.map limitFault := List.map_eq_flatMap.symm

/-- The four limit fields of a CONFIGURE_LIGHTS body, by channel (R131). -/
theorem field2_limits {l : Fin 4 → Nat} (hl : ∀ ch, l ch < 65536) (ch : ChannelId) :
    field2 (le2 (l 0) ++ le2 (l 1) ++ le2 (l 2) ++ le2 (l 3)) (2 * ch.val) = l ch := by
  have hat (pre post : List Byte) (c : ChannelId) : field2 (pre ++ (le2 (l c) ++ post)) pre.length = l c :=
    (field2_append_right pre _ 0).trans (field2_le2 _ (hl c) _)
  rcases ch with ⟨_ | _ | _ | _ | n, h⟩
  · exact hat [] _ 0
  · exact hat (le2 (l 0)) (le2 (l 2) ++ le2 (l 3)) 1
  · exact hat (le2 (l 0) ++ le2 (l 1)) (le2 (l 3)) 2
  · exact hat (le2 (l 0) ++ le2 (l 1) ++ le2 (l 2)) [] 3
  · omega

theorem Light.pastLimit_iff {x : Light} : x.pastLimit = true ↔ x.on = true ∧ x.limit ≠ 0 ∧ x.limit * 100 ≤ x.onTime := by
  rw [Light.pastLimit, Bool.and_eq_true, Bool.and_eq_true, decide_eq_true_iff, decide_eq_true_iff, and_assoc]
  rfl

/-- The limits of a CONFIGURE_LIGHTS body, set before any channel is forced off (R131). -/
def limitsSet (body : List Byte) (s : State) : State := s.eachLight fun c x => { x with limit := field2 body (2 * c.val) }

theorem exec_configureLights_control {s : State} {p : PortId} {body : List Byte}
    (h : Asked s p .configureLights (.atBlock .lights) body) (hlength : body.length = 8) (hcls : (s.port p).cls = .control) :
    exec (.configureLights p) s = .next
      (((List.finRange 4).foldl forceIfPast (limitsSet body s)).reply p { status := .done, body := limitBytes s }) := by
  rw [exec_configureLights_asked h, configureLights, ofLength_of_length_eq hlength, controlOnly_of_control hcls]
  rfl

/-- Settles O45: CONFIGURE_LIGHTS forces off, in channel order, those channels that stand past their new limits. -/
theorem lightLimitsAreKept : Obligations.LightLimitsAreKept := by
  intro s limited
  refine ⟨fun c h hon hlimit hholder => ?_, ?_⟩
  · have hleft : (s.light c).left = some ((s.light c).limit * 100 - (s.light c).onTime) := if_pos ⟨hon, hlimit⟩
    refine congrArg Host.Outcome.next ?_
    rw [hleft, expire_some, forceOff_eq, State.light_elapse]
    simp only [Light.forced, Light.off, Light.after, hon, hholder]
    rfl
  intro p l hl hask past
  have hlength : (le2 (l 0) ++ le2 (l 1) ++ le2 (l 2) ++ le2 (l 3)).length = 8 := rfl
  refine ⟨fun hcls => ?_, fun hcls => ?_⟩
  · rw [exec_configureLights_asked hask, configureLights, ofLength_of_length_eq hlength, controlOnly_of_ordinary hcls]
    rfl
  · have hset (ch : ChannelId) : (limitsSet (le2 (l 0) ++ le2 (l 1) ++ le2 (l 2) ++ le2 (l 3)) s).light ch
        = { s.light ch with limit := l ch } := by
      rw [limitsSet, State.light_eachLight, field2_limits hl]
    have hpast (ch : ChannelId) : ({ s.light ch with limit := l ch } : Light).pastLimit = true ↔ past ch := Light.pastLimit_iff
    obtain ⟨hlights, hframe⟩ := foldl_forceIfPast (List.nodup_finRange 4)
      (limitsSet (le2 (l 0) ++ le2 (l 1) ++ le2 (l 2) ++ le2 (l 3)) s)
    have hexec := exec_configureLights_control hask hlength hcls
    simp only [hset] at hlights hframe
    generalize (List.finRange 4).foldl forceIfPast (limitsSet _ s) = u at hlights hframe hexec
    refine ⟨_, hexec, fun ch hch => ?_, fun ch hch => ?_,
      fun forced holders hsorted hforced hholders => ?_, ?_⟩
    · exact (hlights ch).trans (if_pos ⟨List.mem_finRange ch, (hpast ch).mpr hch⟩)
    · exact (hlights ch).trans (if_neg fun h => hch ((hpast ch).mp h.2))
    · have hlist : ((List.finRange 4).filter fun c => ({ s.light c with limit := l c } : Light).pastLimit) = forced :=
        List.Pairwise.eq_of_mem_iff ((List.pairwise_lt_finRange 4).filter _) hsorted fun ch => by
          rw [List.mem_filter, hpast, hforced]
          exact and_iff_right (List.mem_finRange ch)
      rw [hlist, flatMap_limitFaults hholders] at hframe
      exact (congrArg (fun u : State => ({ u with lights := s.lights } : State).reply p
        { status := .done, body := limitBytes s }) hframe :)
    · exact (congrArg (fun u : State => ({ u with lights := s.lights, fromLights := s.fromLights } : State).reply p
        { status := .done, body := limitBytes s }) hframe :)

end Sys2Proof.Machine

/-! PROOF. Selection (R82 to R86, R134). -/

namespace Sys2Proof.Machine

set_option Elab.async false

variable {s : State}

theorem exec_selectRequest (h : 0 < s.selects) :
    exec .selectRequest s = .next (select { s with selects := s.selects - 1 }) :=
  congrArg Host.Outcome.next (if_neg (by omega))

/-- A PLAY entry that starts asks an IDLE link for its first plane, which is sent at once (R83, R88). -/
theorem startContext_idle {level : Nat} {p : PortId} {tag : Word16} {n : SeqId} {o : Nat} {x : Step}
    (hx : (s.seq n).steps[0]? = some x) (hlink : s.link.state = .idle) (hblank : s.link.pendingBlank = false) :
    let t := startContext level p tag n o s
    t.fromLink = s.fromLink ∧ t.link.state = .transmitting ∧ t.link.sent = some (.load x.slot)
      ∧ t.link.identity = some { holder := { who := .context p tag, number := s.player.lastNumber + 1 }, idx := 0, slot := x.slot
                                 verify := x.verify, stage := .sending } :=
  requestStep_idle _ _ _ x _ hx hlink hblank

/-- A suspended context of a port that resumes asks an IDLE link for the plane of its step (R84, R88). -/
theorem resumeContext_idle {c : Context} {p : PortId} {x : Step} (hp : c.port = some p) (hx : (s.seq c.seq).steps[c.idx]? = some x)
    (hlink : s.link.state = .idle) (hblank : s.link.pendingBlank = false) :
    let t := resumeContext c s
    t.fromLink = s.fromLink ∧ t.link.state = .transmitting ∧ t.link.sent = some (.load x.slot)
      ∧ t.link.identity = some { holder := { who := .context p c.tag, number := s.player.lastNumber + 1 }, idx := c.idx
                                 slot := x.slot, verify := x.verify, stage := .sending } := by
  obtain ⟨seq, port, tag, level, idx, remaining, phase, cut, late⟩ := c
  cases hp
  exact requestStep_idle _ _ _ x _ hx hlink hblank

/-- A suspended context of a port that resumes tells its port (R84). -/
theorem resumeContext_told {c : Context} {p : PortId} (hp : c.port = some p) :
    { resumeContext c s with link := s.link, fromLink := s.fromLink } =
      ({ s with
        trig := { s.trig with latchA := Latch.clear, latchB := Latch.clear, latchSoft := Latch.clear }
        player := { s.player with
          lastNumber := s.player.lastNumber + 1
          out := .running (s.player.lastNumber + 1) { c with phase := some .staging } } } : State).notify p
        (.contextResumed c.tag c.idx c.cut) := by
  obtain ⟨seq, port, tag, level, idx, remaining, phase, cut, late⟩ := c
  cases hp
  exact resumeContext_others _ s

/-- The top of the stack is all that the stack level goes by (R82). -/
theorem State.stackLevel_cons {c : Context} {rest : List Context} (h : s.player.stack = c :: rest) :
    s.stackLevel = c.level.getD 0 := by
  rw [State.stackLevel, h]

theorem resumeTop_cons {c : Context} {rest : List Context} (h : s.player.stack = c :: rest) :
    resumeTop s = resumeContext c { s with player := { s.player with stack := rest } } := by
  rw [resumeTop, h]

theorem resumeTop_nil (h : s.player.stack = []) : resumeTop s = s := by
  rw [resumeTop, h]

/-- A DIRECT head of a port without a session spends its number and is gone (R134). -/
theorem selectHead_spends {e : Entry} {rest : List Entry} (hq : s.queue = e :: rest) (hask : e.ask = .direct)
    (habove : s.stackLevel < s.headLevel) (hclosed : (s.port e.port).sessionOpen = false) :
    selectHead s = selectHead (spendNumber { s with queue := rest }) := by
  have hport : ¬ (State.port { s with queue := rest } e.port).sessionOpen = true := fun h => Bool.noConfusion (hclosed.symm.trans h)
  unfold selectHead
  rw [hq, selectIdle, hq]
  dsimp only
  rw [if_pos habove, hask]
  exact if_neg hport

/-- Settles O29: the head is handed over or the top of the stack resumes, by the comparison of their levels. -/
theorem selectionWithNothingHeld : Obligations.SelectionWithNothingHeld := by
  intro s hselects hup hidle k cleared clearedOf loads
  have hexec : exec .selectRequest s = .next (selectHead { s with selects := s.selects - 1 }) :=
    (exec_selectRequest hselects).trans (congrArg Host.Outcome.next (select_idle hup hidle))
  have habove {e : Entry} {rest : List Entry} (hq : s.queue = e :: rest) (hadmit : e.level = 7 ∨ s.player.holdLevel < e.level)
      (hstack : ∀ c, s.player.stack.head? = some c → c.level.getD 0 < e.level) (hpos : 0 < e.level) :
      s.stackLevel < s.headLevel := by
    rw [State.headLevel_admitted hq ((s.player.admits_iff _).mpr hadmit)]
    exact State.stackLevel_lt hstack hpos
  refine ⟨fun e rest tag n o hq hask hadmit hstack hpos => ?_, fun e rest hq hask hadmit hopen hstack => ?_,
    fun e rest hq hask hadmit hclosed hstack => ?_, fun c rest q hstack hport hhead => ?_, fun hstack hhead => ?_⟩
  · refine ⟨_, hexec.trans (congrArg Host.Outcome.next
      (selectHead_play (s := { s with selects := s.selects - 1 }) hq hask (habove hq hadmit hstack hpos))), ?_, ?_⟩
    · exact startContext_others e.level e.port tag n o { s with selects := s.selects - 1, queue := rest }
    · exact fun x hx hlink hblank =>
        startContext_idle (s := { s with selects := s.selects - 1, queue := rest }) hx hlink hblank
  · exact hexec.trans (congrArg Host.Outcome.next (selectHead_direct (s := { s with selects := s.selects - 1 }) hq hask
      (habove hq (.inr hadmit) hstack (by omega)) hopen))
  · have hspends := selectHead_spends (s := { s with selects := s.selects - 1 }) hq hask
      (habove hq (.inr hadmit) hstack (by omega)) hclosed
    have hagain : select (spendNumber { s with selects := s.selects - 1, queue := rest }) = selectHead _ := select_idle hup hidle
    exact (hexec.trans (congrArg Host.Outcome.next (hspends.trans hagain.symm))).trans
      (exec_selectRequest (s := { s with queue := rest, player := { s.player with lastNumber := k } }) hselects).symm
  · have hbelow : s.headLevel ≤ s.stackLevel := by
      rw [State.stackLevel_cons hstack]
      exact State.headLevel_le fun e he hadmit => hhead e he ((s.player.admits_iff _).mp hadmit)
    have hresume := (selectHead_resumes (s := { s with selects := s.selects - 1 }) hbelow).trans (resumeTop_cons hstack)
    refine ⟨_, hexec.trans (congrArg Host.Outcome.next hresume),
      resumeContext_told (s := { s with selects := s.selects - 1, player := { s.player with stack := rest } }) hport, fun x hx hlink hblank => ?_⟩
    exact resumeContext_idle (s := { s with selects := s.selects - 1, player := { s.player with stack := rest } }) hport hx hlink
      hblank
  · have hbelow : s.headLevel ≤ s.stackLevel := by
      refine Nat.le_trans (State.headLevel_le (l := 0) fun e he hadmit => ?_) (Nat.zero_le _)
      obtain ⟨hnot7, hlow⟩ := hhead e he
      have := (s.player.admits_iff _).mp hadmit
      omega
    exact hexec.trans (congrArg Host.Outcome.next
      ((selectHead_resumes (s := { s with selects := s.selects - 1 }) hbelow).trans (resumeTop_nil hstack)))

/-! ## Preemption (R85, R86) -/

theorem Context.showing_iff {c : Context} : c.showing = true ↔ c.phase = some .hold ∨ c.phase = some .gap := by
  simp [Context.showing]

/-- When a current context gives way (R85, R86). -/
theorem Context.yields_iff {c : Context} {own level : Nat} (hlevel : c.level = some own) : c.yields level = true ↔
    own < level ∧ (level = 7 ∨ ¬ (c.phase = some .hold ∨ c.phase = some .gap)) := by
  rw [← Context.showing_iff]
  simp [Context.yields, hlevel]

theorem Context.cutBy_eq (c : Context) (level : Nat) :
    c.cutBy level = (c.cut || decide (level = 7 ∧ (c.phase = some .hold ∨ c.phase = some .gap))) := by
  rw [Bool.eq_iff_iff]
  simp [Context.cutBy, Context.showing]

section
variable {k own : Nat} {c : Context} {q : PortId} {e : Entry} {rest : List Entry}

/-- A current context that a head entry preempts leaves the head the highest. -/
theorem pushContext_levels {cut : Bool} (hq : s.queue = e :: rest) (hadmit : s.player.admits e.level = true)
    (hlevel : c.level = some own) (hport : c.port = some q) (habove : own < e.level) :
    let t := pushContext k c cut e.level s
    t.queue = e :: rest ∧ t.stackLevel < t.headLevel := by
  have hframe := pushContext_others k c cut e.level s hport
  have hqueue : (pushContext k c cut e.level s).queue = e :: rest := (congrArg State.queue hframe :).trans hq
  have hstack : (pushContext k c cut e.level s).player.stack = { c with phase := none, cut := cut } :: s.player.stack :=
    (congrArg (fun t : State => t.player.stack) hframe :)
  have hhold : (pushContext k c cut e.level s).player.holdLevel = s.player.holdLevel :=
    (congrArg (fun t : State => t.player.holdLevel) hframe :)
  have hadmit' : (pushContext k c cut e.level s).player.admits e.level = true := by
    rwa [Player.admits, hhold]
  refine ⟨hqueue, ?_⟩
  rw [State.headLevel_admitted hqueue hadmit', State.stackLevel_cons hstack]
  show c.level.getD 0 < e.level
  rw [hlevel]
  exact habove

end

/-- Settles O30: by whether the context yields to the head, and then by what the head asks. -/
theorem preemptionPushesTheContext : Obligations.PreemptionPushesTheContext := by
  intro s hselects idle cleared
  have hexec := exec_selectRequest hselects
  have hkeeps {k own : Nat} {c : Context} {e : Entry} {rest : List Entry} (hup : s.player.linkUp = true)
      (hout : s.player.out = .running k c) (hlevel : c.level = some own) (hq : s.queue = e :: rest)
      (hadmit : s.player.admits e.level = true)
      (hnot : e.level ≤ own ∨ (e.level ≠ 7 ∧ (c.phase = some .hold ∨ c.phase = some .gap))) :
      exec .selectRequest s = .next idle := by
    refine hexec.trans (congrArg Host.Outcome.next ((select_running (s := idle) hup hout).trans (if_neg ?_)))
    rw [State.headLevel_admitted (s := idle) hq hadmit, Context.yields_iff hlevel]
    rintro ⟨habove, h⟩
    obtain hlow | ⟨hnot7, hshown⟩ := hnot
    · omega
    · exact h.elim hnot7 fun hnotShown => hnotShown hshown
  have hyields {k own : Nat} {c : Context} {e : Entry} {rest : List Entry} (hup : s.player.linkUp = true)
      (hout : s.player.out = .running k c) (hlevel : c.level = some own) (hq : s.queue = e :: rest)
      (hadmit : s.player.admits e.level = true) (habove : own < e.level)
      (hshown : e.level = 7 ∨ ¬ (c.phase = some .hold ∨ c.phase = some .gap)) : exec .selectRequest s = .next (selectHead
        (pushContext k c (c.cut || decide (e.level = 7 ∧ (c.phase = some .hold ∨ c.phase = some .gap))) e.level idle)) := by
    have hyes := (Context.yields_iff hlevel).mpr ⟨habove, hshown⟩
    have hhead : idle.headLevel = e.level := State.headLevel_admitted (s := idle) hq hadmit
    rw [hexec, ← Context.cutBy_eq]
    have := select_running (s := idle) hup hout
    rw [hhead, if_pos hyes] at this
    exact congrArg Host.Outcome.next this
  refine ⟨?_, ?_, fun h => ?_⟩
  · intro k c own q e rest tag n o hup hout hlevel hport hq hask hadmit shown count
    refine ⟨fun habove hshown => ?_, hkeeps hup hout hlevel hq ((s.player.admits_iff _).mpr hadmit)⟩
    have hexec := hyields hup hout hlevel hq ((s.player.admits_iff _).mpr hadmit) habove hshown
    have hpushed := pushContext_others k c (c.cut || decide (e.level = 7 ∧ shown)) e.level idle hport
    have hlights := light_pushContext k c (c.cut || decide (e.level = 7 ∧ shown)) e.level idle
    obtain ⟨hqueue, habove'⟩ := pushContext_levels (s := idle) (k := k) (cut := c.cut || decide (e.level = 7 ∧ shown)) hq
      ((s.player.admits_iff _).mpr hadmit) hlevel hport habove
    generalize pushContext k c _ e.level idle = u at hexec hpushed hlights hqueue habove'
    have hstart := startContext_others e.level e.port tag n o { u with queue := rest }
    rw [selectHead_play hqueue hask habove'] at hexec
    refine ⟨_, hexec, fun ch => ?_, ?_⟩
    · have hlight : (startContext e.level e.port tag n o { u with queue := rest }).light ch = u.light ch :=
        (congrArg (fun t : State => t.light ch) hstart :)
      rw [hlight]
      exact hlights ch
    · have hcount : (State.seq { u with queue := rest } n).repeatCount = (s.seq n).repeatCount :=
        (congrArg (fun t : State => (t.seq n).repeatCount) hpushed :)
      rw [hcount] at hstart
      refine (congrArg (fun t : State => { t with link := s.link, fromLink := s.fromLink, lights := s.lights }) hstart :).trans ?_
      exact (congrArg (fun t : State => ({ t with
        queue := rest, fromLink := s.fromLink
        trig := { t.trig with latchA := cleared, latchB := cleared, latchSoft := cleared }
        player := { t.player with
          lastNumber := t.player.lastNumber + 1
          out := .running (t.player.lastNumber + 1)
            { seq := n, port := some e.port, tag := tag, level := some e.level, idx := 0
              remaining := if count = 65535 then .endless else .count (count - 1)
              phase := some .staging, cut := false, late := 0 } } } : State).notify e.port
        (.contextStarted tag n e.level count)) hpushed :)
  · intro k c own q e rest hup hout hlevel hport hq hask hadmit hopen shown cut
    refine ⟨fun habove hshown => ?_, hkeeps hup hout hlevel hq ((s.player.admits_iff _).mpr (.inr hadmit))⟩
    have hexec := hyields hup hout hlevel hq ((s.player.admits_iff _).mpr (.inr hadmit)) habove hshown
    have hpushed := pushContext_others k c cut e.level idle hport
    have hlights := light_pushContext k c cut e.level idle
    have hsession : ((pushContext k c cut e.level idle).port e.port).sessionOpen = true := by
      obtain ⟨ns, hns⟩ := NoticesOnly.pushContext k c cut e.level idle e.port
      rw [hns]
      exact hopen
    obtain ⟨hqueue, habove'⟩ := pushContext_levels (s := idle) (k := k) (cut := cut) hq
      ((s.player.admits_iff _).mpr (.inr hadmit)) hlevel hport habove
    rw [selectHead_direct hqueue hask habove' hsession] at hexec
    refine ⟨_, hexec, hlights, ?_⟩
    exact (congrArg (fun t : State => ({ t with
      queue := rest
      player := { t.player with
        lastNumber := t.player.lastNumber + 1
        out := .offering (t.player.lastNumber + 1) { port := e.port, level := e.level, window := some 50000 } } } : State).notify
        e.port (.directOffered e.level)) hpushed :)
  · refine hexec.trans (congrArg Host.Outcome.next ?_)
    obtain hdown | hhalted | ⟨k, c, hfallback⟩ := h
    · exact select_linkDown hdown
    · exact select_halted hhalted
    · exact select_fallback hfallback

end Sys2Proof.Machine

/-! PROOF. CANCEL at the player (R94, R98), and the steps of a running context (R88 to R93). -/

namespace Sys2Proof.Machine

set_option Elab.async false

/-! ## CANCEL at the player (R94, R98) -/

section
variable {s : State} {p q : PortId} {tag : Word16} {k : Nat} {c : Context}

theorem selectIfIdle_idle (h : s.player.out = .idle) : selectIfIdle s = select s := if_pos h

/-- With a holder, or without the link, nothing is selected (R94; notes/assumptions/29.md). -/
theorem selectIfIdle_held (h : s.player.out ≠ .idle ∨ s.player.linkUp = false) : selectIfIdle s = s := by
  unfold selectIfIdle
  obtain hheld | hdown := h
  · exact if_neg hheld
  · rw [select_linkDown hdown, ite_self]

theorem Context.named_iff : c.named q tag = true ↔ c.port = some q ∧ c.tag = tag := by
  simp [Context.named]

theorem field1_portByte (q : PortId) (r : List Byte) : field1 (portByte q ++ r) 0 = q.val :=
  Nat.mod_eq_of_lt (show q.val < 2 ^ 8 by have := q.isLt; omega)

/-- The body of a CANCEL names a port and a play tag. -/
theorem cancelContext_running (hout : s.player.out = .running k c) (hport : c.port = some q) (htag : c.tag = tag) :
    cancelContext (portByte q ++ tagBytes tag) s = done [] (abortRunning k c s) := by
  have hread : tagAt (portByte q ++ tagBytes tag) 1 = tag := by
    have h := tagAt_tagBytes_at (portByte q) tag []
    rwa [List.append_nil] at h
  unfold cancelContext
  rw [field1_portByte, portOf_val]
  dsimp only
  rw [hout]
  dsimp only
  rw [hread, if_pos (Context.named_iff.mpr ⟨hport, htag⟩)]

theorem cancelContext_suspended (h : ∀ k c, s.player.out = .running k c → ¬ (c.port = some q ∧ c.tag = tag)) :
    cancelContext (portByte q ++ tagBytes tag) s = cancelSuspended q tag s := by
  have hread : tagAt (portByte q ++ tagBytes tag) 1 = tag := by
    have h := tagAt_tagBytes_at (portByte q) tag []
    rwa [List.append_nil] at h
  unfold cancelContext
  rw [field1_portByte, portOf_val]
  dsimp only
  rw [hread]
  split
  next k c hout => exact if_neg fun hnamed => h k c hout (Context.named_iff.mp hnamed)
  · rfl

theorem cancelSuspended_found {before after : List Context} (hstack : s.player.stack = before ++ c :: after)
    (hport : c.port = some q) (htag : c.tag = tag) (hbefore : ∀ d ∈ before, ¬ (d.port = some q ∧ d.tag = tag)) :
    cancelSuspended q tag s = done [] (abortSuspended c s) := by
  have hfind : s.player.stack.find? (Context.named q tag) = some c :=
    List.find?_eq_some_iff_append.mpr ⟨Context.named_iff.mpr ⟨hport, htag⟩, before, after, hstack, fun d hd =>
      Bool.not_eq_true' _ ▸ Bool.eq_false_iff.mpr fun h => hbefore d hd (Context.named_iff.mp h)⟩
  rw [cancelSuspended, hfind]

theorem cancelSuspended_missing (h : ∀ d ∈ s.player.stack, ¬ (d.port = some q ∧ d.tag = tag)) :
    cancelSuspended q tag s = refuse .badArgument s := by
  have hfind : s.player.stack.find? (Context.named q tag) = none :=
    List.find?_eq_none.mpr fun d hd hnamed => h d hd (Context.named_iff.mp hnamed)
  rw [cancelSuspended, hfind]

theorem exec_cancelContext_done {body : List Byte} {t : State} (hask : Asked s p .cancel .passedCancel body)
    (h : cancelContext body s = done [] t) :
    exec (.cancelContext p) s = .next (selectIfIdle (t.reply p { status := .done, body := [] })) := by
  rw [exec_cancelContext_asked hask, h]
  rfl

theorem exec_cancelContext_refused {body : List Byte} (hask : Asked s p .cancel .passedCancel body)
    (h : cancelContext body s = refuse .badArgument s) :
    exec (.cancelContext p) s = .next (s.reply p { status := .badArgument, body := [] }) := by
  rw [exec_cancelContext_asked hask, h]
  rfl

theorem exec_cancelFallback_done {body : List Byte} {t : State} (hask : Asked s p .cancel .passedFallback body)
    (h : cancelFallback body s = done [] t) :
    exec (.cancelFallback p) s = .next (selectIfIdle (t.reply p { status := .done, body := [] })) := by
  rw [exec_cancelFallback_asked hask, h]
  rfl

theorem exec_cancelFallback_refused {body : List Byte} (hask : Asked s p .cancel .passedFallback body)
    (h : cancelFallback body s = refuse .wrongState s) :
    exec (.cancelFallback p) s = .next (s.reply p { status := .wrongState, body := [] }) := by
  rw [exec_cancelFallback_asked hask, h]
  rfl

theorem abortSuspended_eq {before after : List Context} (hstack : s.player.stack = before ++ c :: after) (hnot : c ∉ before)
    (hport : c.port = some q) : abortSuspended c s = useRelease c.seq
      (({ s with player := { s.player with stack := before ++ after } } : State).notify q
        (.contextAborted c.tag (.ended .cancelled) c.idx c.late)) := by
  rw [abortSuspended, hstack, List.erase_append_right _ hnot, List.erase_cons_head, hport]
  rfl

end

/-- Settles O34: the current context first, and then the stack, top first. -/
theorem cancelAtThePlayer : Obligations.CancelAtThePlayer := by
  intro s p answer
  refine ⟨fun q tag hask => ⟨fun k c hout hport htag => ?_, fun hcurrent hheld =>
    ⟨fun before after c hstack hport htag hbefore => ?_, fun hnone => ?_⟩⟩, fun body hask => ⟨fun k c hout => ?_, fun hout => ?_⟩⟩
  · rw [exec_cancelContext_done hask (cancelContext_running hout hport htag), selectIfIdle_idle (by rfl), abortRunning,
      abortNotice, hout, hport, htag]
    rfl
  · have hnot : c ∉ before := fun hmem => hbefore c hmem ⟨hport, htag⟩
    rw [exec_cancelContext_done hask
      ((cancelContext_suspended hcurrent).trans (cancelSuspended_found hstack hport htag hbefore)),
      abortSuspended_eq hstack hnot hport, htag]
    refine congrArg Host.Outcome.next (selectIfIdle_held ?_)
    rw [State.reply_player, useRelease_player]
    exact hheld
  · exact exec_cancelContext_refused hask ((cancelContext_suspended hcurrent).trans (cancelSuspended_missing hnone))
  · have hcancel : cancelFallback body s = done [] (abortRunning k c s) := by
      rw [cancelFallback, hout]
    rw [exec_cancelFallback_done hask hcancel, selectIfIdle_idle (by rfl), abortRunning, abortNotice, hout]
  · have hrefused : cancelFallback body s = refuse .wrongState s := by
      unfold cancelFallback
      split
      next k c h => exact absurd h (hout k c)
      · rfl
    exact exec_cancelFallback_refused hask hrefused

end Sys2Proof.Machine

/-! PROOF. The steps of a running context (R88 to R93). -/

namespace Sys2Proof.Machine

set_option Elab.async false

/-! ## What the blocks hand the player is taken -/

section
variable {s : State} {k : Nat} {c : Context}

theorem exec_loadedTaken {m j : Nat} {rest : List LinkEvent} (h : s.fromLink = .loaded m j :: rest) :
    exec .loadedTaken s = .next (takeLoaded m j { s with fromLink := rest }) := by
  show execLoadedTaken s = _
  rw [execLoadedTaken, h]

theorem exec_swappedTaken {m j : Nat} {rest : List LinkEvent} (h : s.fromLink = .swapped m j :: rest) :
    exec .swappedTaken s = .next (takeSwapped m j { s with fromLink := rest }) := by
  show execSwappedTaken s = _
  rw [execSwappedTaken, h]

theorem exec_consumptionTaken {m : Nat} {rest : List TrigEvent} (h : s.fromTrig = .consumption m :: rest) :
    exec .consumptionTaken s = .next (takeConsumption m { s with fromTrig := rest }) := by
  show execConsumptionTaken s = _
  rw [execConsumptionTaken, h]

/-- A context that runs is current or the fallback. -/
theorem Output.context?_eq_some {o : Output} (h : o.context? = some (k, c)) : o = .running k c ∨ o = .fallback k c := by
  cases o <;> simp_all [Output.context?]

theorem Output.number?_of_context {o : Output} (h : o.context? = some (k, c)) : o.number? = some k := by
  obtain rfl | rfl := Output.context?_eq_some h <;> rfl

/-- Time that passes leaves a running context as it is. -/
theorem Output.after_of_context {o : Output} (h : o.context? = some (k, c)) (d : Nat) : o.after d = o := by
  obtain rfl | rfl := Output.context?_eq_some h <;> rfl

theorem takeLoaded_staging (hctx : s.player.out.context? = some (k, c)) (hphase : c.phase = some .staging) :
    takeLoaded k c.idx s = endStaging k c s := by
  unfold takeLoaded
  obtain h | h := Output.context?_eq_some hctx <;> rw [h] <;> exact if_pos ⟨rfl, hphase, rfl⟩

theorem takeLoaded_stale {m j : Nat} (hctx : s.player.out.context? = some (k, c)) (hm : m ≠ k) : takeLoaded m j s = s := by
  unfold takeLoaded
  obtain h | h := Output.context?_eq_some hctx <;> rw [h] <;> exact if_neg fun hk => hm hk.1.symm

theorem takeConsumption_waiting {x : Step} (hctx : s.player.out.context? = some (k, c)) (hphase : c.phase = some .waiting)
    (hx : stepOf s c c.idx = some x) : takeConsumption k s = beginSwap k c x s := by
  unfold takeConsumption
  rw [hctx]
  dsimp only
  rw [if_pos ⟨rfl, hphase⟩, hx]

theorem takeConsumption_stale {m : Nat} (hctx : s.player.out.context? = some (k, c)) (hm : m ≠ k) : takeConsumption m s = s := by
  unfold takeConsumption
  rw [hctx]
  exact if_neg fun hk => hm hk.1.symm

theorem takeSwapped_shown (hctx : s.player.out.context? = some (k, c)) (hphase : c.phase = some .hold)
    (htimer : s.player.holdTimer = none) : takeSwapped k c.idx s = showStep k c s := by
  have hawaits : c.awaitsSwap c.idx s.player.holdTimer = true := by
    simp [Context.awaitsSwap, hphase, htimer]
  unfold takeSwapped
  obtain h | h := Output.context?_eq_some hctx <;> rw [h] <;> exact if_pos ⟨rfl, hawaits⟩

/-! ## Selection with an empty queue -/

/-- With no entry queued, a running context keeps the output (R82, R85). -/
theorem select_unheaded (hctx : s.player.out.context? = some (k, c)) (hq : s.queue = []) : select s = s := by
  have hhead : s.headLevel = 0 := by rw [State.headLevel, hq]
  obtain h | h := Output.context?_eq_some hctx
  · cases hup : s.player.linkUp with
    | false => exact select_linkDown hup
    | true =>
      rw [select_running hup h, hhead, if_neg]
      cases hlevel : c.level <;> simp [Context.yields, hlevel]
  · exact select_fallback h

/-! ## The swap (R90, R125) -/

/-- The link with the swap of its identity sent (R125). -/
def Link.swap (l : Link) (i : Identity) : Link :=
  { l with
    state := .awaitSwapped, identity := some { i with stage := .swapping }, timer := some 2000, msgSlot := some i.slot
    sent := some .swap }

/-- The identity of a plane that is LOADED for a holding and step, at a link that is IDLE (R125). -/
def Link.ready (l : Link) (k idx : Nat) (i : Identity) : Prop :=
  l.state = .idle ∧ l.identity = some i ∧ i.holder.number = k ∧ i.idx = idx ∧ i.stage = .loaded

theorem swapRequest_ready {holder : HolderRef} {idx : Nat} {slot : SlotId} {i : Identity}
    (h : s.link.ready holder.number idx i) : swapRequest holder idx slot s = { s with link := s.link.swap i } := by
  obtain ⟨hstate, hidentity, hnumber, hidx, hstage⟩ := h
  unfold swapRequest
  rw [hstate]
  dsimp only [LinkState.refusal]
  rw [hidentity]
  exact if_pos ⟨hnumber, hidx, hstage, rfl⟩

theorem beginSwap_ready {x : Step} {i : Identity} (h : s.link.ready k c.idx i) :
    beginSwap k c x s = { s.setContext { c with phase := some .hold } with link := s.link.swap i } :=
  swapRequest_ready (s := s.setContext { c with phase := some .hold }) h

/-! ## The end of STAGING (R88, R89, R111) -/

theorem endStaging_timed {x : Step} (hx : stepOf s c c.idx = some x) (h : x.advance = .timed) :
    endStaging k c s = beginSwap k c x s := by
  rw [endStaging, hx]
  dsimp only
  rw [h]
  rfl

theorem endStaging_latched {x : Step} {src : Source} (hx : stepOf s c c.idx = some x) (h : x.advance.source = some src)
    (hlatch : (s.trig.latch src).pending = true) :
    endStaging k c s = select (beginSwap k c x (consumeLatch src s)) := by
  rw [endStaging, hx]
  dsimp only
  rw [h]
  exact if_pos hlatch

theorem endStaging_waits {x : Step} {src : Source} (hx : stepOf s c c.idx = some x) (h : x.advance.source = some src)
    (hlatch : (s.trig.latch src).pending = false) : endStaging k c s =
      select (makeWait src { who := c.holder, number := k } (s.setContext { c with phase := some .waiting })) := by
  rw [endStaging, hx]
  dsimp only
  rw [h]
  exact if_neg (Bool.eq_false_iff.mp hlatch)

end

/-- Settles O35: a LOADED answer by what the step advances on, and the discard of one for an earlier holding. -/
theorem stagedStepsWaitOrSwap : Obligations.StagedStepsWaitOrSwap := by
  intro s k c hctx
  refine ⟨?_, fun m j rest h hm => ?_, fun m rest h hm => ?_⟩
  · intro x i hx hstate hidentity hnumber hidx hstage swapping held
    refine ⟨?_, fun rest h hphase => ?_⟩
    · intro rest h hphase s'
      have hexec := exec_loadedTaken h
      rw [takeLoaded_staging (s := s') hctx hphase] at hexec
      have hready : s'.link.ready k c.idx i := ⟨hstate, hidentity, hnumber, hidx, hstage⟩
      refine ⟨fun hadvance => ?_, fun src hsrc hlatch => ?_, fun src hsrc hlatch hq => ?_⟩
      · rw [hexec, endStaging_timed (s := s') hx hadvance, beginSwap_ready hready]
        rfl
      · rw [hexec, endStaging_latched (s := s') hx hsrc hlatch, beginSwap_ready (s := consumeLatch src s') hready]
        rfl
      · rw [hexec, endStaging_waits (s := s') hx hsrc hlatch]
        refine congrArg Host.Outcome.next ?_
        exact select_unheaded (Output.context_withContext { c with phase := some .waiting } hctx) hq
    · rw [exec_consumptionTaken h, takeConsumption_waiting (s := { s with fromTrig := rest }) hctx hphase hx,
        beginSwap_ready (s := { s with fromTrig := rest }) ⟨hstate, hidentity, hnumber, hidx, hstage⟩]
      rfl
  · rw [exec_loadedTaken h, takeLoaded_stale (s := { s with fromLink := rest }) hctx hm]
  · rw [exec_consumptionTaken h, takeConsumption_stale (s := { s with fromTrig := rest }) hctx hm]

/-! ## A step on display (R90) -/

section
variable {s : State} {k : Nat} {c : Context} {x : Step}

/-- The load of a step leaves the channels as they are. -/
theorem light_requestStep (i : Nat) (ch : ChannelId) : (requestStep k c i s).light ch = s.light ch :=
  (congrArg (fun t : State => t.light ch) (requestStep_others k c i s) :)

theorem shownStep_others : { shownStep k c x s with lights := s.lights } =
    { s with
      trig := { s.trig with sync := some 2 }
      player := { s.player with out := s.player.out.withContext { c with cut := false }, holdTimer := some (x.hold * 10) } } :=
  (congrArg (fun t : State => ({ t with
    player := { t.player with out := s.player.out.withContext { c with cut := false }, holdTimer := some (x.hold * 10) } } : State))
      (lightRequest_others { who := c.holder, number := k } x.mask (syncPulse s)) :)

theorem showStep_others (hx : stepOf s c c.idx = some x) :
    { showStep k c s with link := s.link, fromLink := s.fromLink } = shownStep k c x s := by
  cases ha : c.ahead (s.seq c.seq).steps.length with
  | none => rw [showStep_last hx ha]; rfl
  | some j =>
    rw [showStep_ahead hx ha]
    exact requestStep_others k { c with cut := false } j (shownStep k c x s)

end

/-- Settles O36: what is shown at once, and then the load of the step ahead. -/
theorem swappedStepIsShown : Obligations.SwappedStepIsShown := by
  intro s k c x rest hctx hx hphase htimer h
  have hexec := exec_swappedTaken h
  rw [takeSwapped_shown (s := { s with fromLink := rest }) hctx hphase htimer] at hexec
  have hothers := showStep_others (s := { s with fromLink := rest }) (k := k) hx
  obtain ⟨t, ht⟩ : ∃ t, t = showStep k c { s with fromLink := rest } := ⟨_, rfl⟩
  rw [← ht] at hexec hothers
  refine ⟨t, hexec, ?_, fun ch => ?_, fun j y hahead hy hstate hblank => ?_, fun hahead => ?_⟩
  · exact (congrArg (fun u : State => { u with lights := s.lights }) hothers :).trans
      (shownStep_others (s := { s with fromLink := rest }))
  · have hlight : t.light ch = (shownStep k c x { s with fromLink := rest }).light ch :=
      (congrArg (fun u : State => u.light ch) hothers :)
    rw [hlight]
    exact light_shownStep k c x { s with fromLink := rest } ch
  · rw [ht, showStep_ahead (s := { s with fromLink := rest }) hx hahead]
    exact requestStep_idle k { c with cut := false } j y (shownStep k c x { s with fromLink := rest }) hy hstate hblank
  · rw [ht, showStep_last (s := { s with fromLink := rest }) hx hahead]
    exact ⟨rfl, rfl⟩

/-! ## The end of a hold and of a gap (R91, R92, R93) -/

section
variable {s : State} {k d : Nat} {c : Context} {x y : Step} {j : Nat} {r : Remaining}

theorem exec_holdTimerExpiry (hctx : s.player.out.context? = some (k, c)) (hphase : c.phase = some .hold)
    (htimer : s.player.holdTimer = some d) : exec .holdTimerExpiry s = .next (endHold k c (s.elapse d)) := by
  have hctx' : (s.elapse d).player.out.context? = some (k, c) :=
    (congrArg Output.context? (Output.after_of_context hctx d)).trans hctx
  refine congrArg Host.Outcome.next ?_
  rw [htimer, expire_some, holdEnds, hctx']
  exact if_pos hphase

theorem exec_gapTimerExpiry (hctx : s.player.out.context? = some (k, c)) (hphase : c.phase = some .gap)
    (htimer : s.player.gapTimer = some d) : exec .gapTimerExpiry s = .next (endGap k c (stopTimers (s.elapse d))) := by
  have hctx' : (s.elapse d).player.out.context? = some (k, c) :=
    (congrArg Output.context? (Output.after_of_context hctx d)).trans hctx
  refine congrArg Host.Outcome.next ?_
  rw [htimer, expire_some, gapEnds, hctx']
  exact if_pos hphase

theorem keptChannels_of_gap (h : x.gap ≠ 0) : keptChannels k c x s = none := by
  cases hkept : keptChannels k c x s with
  | none => rfl
  | some mask =>
    obtain ⟨_, _, _, _, _, hgap, _⟩ := keptChannels_eq_some hkept
    exact absurd hgap h

theorem keptChannels_shared (hgap : x.gap = 0) (hnext : c.next (s.seq c.seq).steps.length = some (j, r))
    (hy : stepOf s c j = some y) (htimed : y.advance = .timed) (hheld : s.link.holds k j = true) :
    keptChannels k c x s = some (x.mask &&& y.mask) := by
  have hahead : c.ahead (s.seq c.seq).steps.length = some j := congrArg (Option.map Prod.fst) hnext
  rw [keptChannels, hahead]
  show (stepOf s c j).bind _ = _
  rw [hy]
  exact if_pos ⟨hgap, hheld, htimed⟩

theorem Link.ready.holds {l : Link} {idx : Nat} {i : Identity} (h : l.ready k idx i) : l.holds k idx = true := by
  obtain ⟨-, hidentity, hnumber, hidx, hstage⟩ := h
  simp [Link.holds, hidentity, hnumber, hidx, hstage]

/-- A context at its next position (R92). -/
def Context.moved (c : Context) (j : Nat) (r : Remaining) : Context :=
  { c with idx := j, remaining := r, phase := some .staging }

theorem endGap_none (h : c.next (s.seq c.seq).steps.length = none) : endGap k c s = complete c s := by
  rw [endGap, h]

/-- With no entry queued the context goes on at its next position (R92). -/
theorem endGap_goes_on (h : c.next (s.seq c.seq).steps.length = some (j, r)) (hctx : s.player.out.context? = some (k, c))
    (hq : s.queue = []) : endGap k c s = stageNext k (c.moved j r) (s.setContext (c.moved j r)) := by
  have hselect : select (s.setContext (c.moved j r)) = s.setContext (c.moved j r) :=
    select_unheaded (Output.context_withContext (c.moved j r) hctx) hq
  have hnumber : (s.setContext (c.moved j r)).player.out.number? = some k :=
    Output.number?_of_context (Output.context_withContext (c.moved j r) hctx)
  rw [endGap, h]
  show (if (select (s.setContext (c.moved j r))).player.out.number? = some k then
    stageNext k (c.moved j r) (select (s.setContext (c.moved j r))) else select (s.setContext (c.moved j r))) = _
  rw [hselect]
  exact if_pos hnumber

theorem stageNext_ready {i : Identity} (h : s.link.ready k c.idx i) : stageNext k c s = endStaging k c s :=
  if_pos h.holds

/-- A step whose plane is on its way, but not LOADED, is late (R92). -/
theorem stageNext_late {i : Identity} (hidentity : s.link.identity = some i) (hnumber : i.holder.number = k)
    (hidx : i.idx = c.idx) (hstage : i.stage ≠ .loaded) :
    stageNext k c s = s.setContext { c with late := min 65535 (c.late + 1) } := by
  have hholds : ¬ s.link.holds k c.idx = true := by simp [Link.holds, hidentity, hstage]
  have hnames : s.link.names k c.idx = true := by simp [Link.names, hidentity, hnumber, hidx]
  exact (if_neg hholds).trans (if_pos hnames)

/-- A higher head takes the output from a current context whose gap has ended: selection is all that happens (R85, R92). -/
theorem endGap_preempted {e : Entry} {rest : List Entry} {own : Nat} (h : c.next (s.seq c.seq).steps.length = some (j, r))
    (hout : s.player.out = .running k c) (hknown : k ≤ s.player.lastNumber) (hup : s.player.linkUp = true)
    (hlevel : c.level = some own) (hq : s.queue = e :: rest) (habove : own < e.level)
    (hadmit : s.player.admits e.level = true) : endGap k c s = select (s.setContext (c.moved j r)) := by
  have hmoved : (s.setContext (c.moved j r)).player.out = .running k (c.moved j r) := by
    rw [State.setContext_player, hout]
    rfl
  have hhead : (s.setContext (c.moved j r)).headLevel = e.level :=
    State.headLevel_admitted (s := s.setContext (c.moved j r)) hq hadmit
  have hyields : (c.moved j r).yields e.level = true :=
    (Context.yields_iff (c := c.moved j r) hlevel).mpr ⟨habove, .inr (by simp [Context.moved])⟩
  have hselect : select (s.setContext (c.moved j r)) = selectHead
      (pushContext k (c.moved j r) ((c.moved j r).cutBy e.level) e.level (s.setContext (c.moved j r))) := by
    rw [select_running (s := s.setContext (c.moved j r)) hup hmoved, hhead, if_pos hyields]
  have hnumber : ¬ (select (s.setContext (c.moved j r))).player.out.number? = some k := fun hk => by
    rw [hselect] at hk
    have hnew := selectIdle_number _ (pushContext_out ..) hk
    rw [pushContext_lastNumber] at hnew
    exact absurd hknown (Nat.not_le.mpr hnew)
  rw [endGap, h]
  exact if_neg hnumber

/-- A hold that ends with a gap of 0 before a TIMED step that is LOADED: its swap begins, and shared channels stay on (R91). -/
theorem endHold_swaps {i : Identity} (hx : stepOf s c c.idx = some x) (hgap : x.gap = 0)
    (hnext : c.next (s.seq c.seq).steps.length = some (j, r)) (hy : stepOf s c j = some y) (htimed : y.advance = .timed)
    (hctx : s.player.out.context? = some (k, c)) (hq : s.queue = []) (hready : s.link.ready k j i) : endHold k c s =
      { (lightRequest { who := c.holder, number := k } (x.mask &&& y.mask) (stopTimers s)).setContext
          { c with idx := j, remaining := r, phase := some .hold } with link := s.link.swap i } := by
  have hkept : keptChannels k c x (stopTimers s) = some (x.mask &&& y.mask) :=
    keptChannels_shared (s := stopTimers s) hgap hnext hy htimed hready.holds
  rw [endHold, hx]
  dsimp only
  rw [if_pos hgap, endLights, hkept]
  dsimp only
  obtain ⟨t, ht⟩ : ∃ t, t = (lightRequest { who := c.holder, number := k } (x.mask &&& y.mask) (stopTimers s)).setContext
    { c with phase := some .gap } := ⟨_, rfl⟩
  have hcontext : t.player.out.context? = some (k, { c with phase := some .gap }) := by
    rw [ht]
    exact Output.context_withContext { c with phase := some .gap } hctx
  have hlink : t.link = s.link := by rw [ht]; rfl
  have hqueue : t.queue = [] := by rw [ht]; exact hq
  have hseq : t.seq c.seq = s.seq c.seq := by rw [ht]; rfl
  have hready' : (t.setContext (c.moved j r)).link.ready k (c.moved j r).idx i := by
    rw [State.setContext_link, hlink]
    exact hready
  have hnext' : Context.next { c with phase := some .gap } (t.seq c.seq).steps.length = some (j, r) := by
    rw [hseq]
    exact hnext
  have hy' : stepOf (t.setContext (c.moved j r)) (c.moved j r) (c.moved j r).idx = some y := by
    show (t.seq c.seq).steps[j]? = some y
    rw [hseq]
    exact hy
  calc endGap k { c with phase := some .gap } _
      = endGap k { c with phase := some .gap } t := by rw [ht]
    _ = stageNext k (c.moved j r) (t.setContext (c.moved j r)) := endGap_goes_on (c := { c with phase := some .gap }) hnext' hcontext hqueue
    _ = beginSwap k (c.moved j r) y (t.setContext (c.moved j r)) :=
        (stageNext_ready hready').trans (endStaging_timed hy' htimed)
    _ = { (t.setContext (c.moved j r)).setContext { c.moved j r with phase := some .hold } with
          link := (t.setContext (c.moved j r)).link.swap i } := beginSwap_ready hready'
    _ = { t.setContext { c with idx := j, remaining := r, phase := some .hold } with link := s.link.swap i } := by
        rw [State.setContext_setContext, State.setContext_link, hlink]
        rfl
    _ = _ := by rw [ht, State.setContext_setContext]

/-- A step whose latch is set, with its plane LOADED and no entry queued, goes to the swap (R89, R111). -/
theorem endStaging_swaps {c₀ : Context} {src : Source} {i : Identity} (hx : stepOf s c c.idx = some x)
    (hsrc : x.advance.source = some src) (hlatch : (s.trig.latch src).pending = true)
    (hctx : s.player.out.context? = some (k, c₀)) (hq : s.queue = []) (hready : s.link.ready k c.idx i) :
    endStaging k c s =
      consumeLatch src { s.setContext { c with phase := some .hold } with link := s.link.swap i } := by
  rw [endStaging_latched hx hsrc hlatch, beginSwap_ready (s := consumeLatch src s) hready]
  exact select_unheaded (Output.context_withContext { c with phase := some .hold } hctx) hq

/-- A step whose latch is clear, with no entry queued, waits (R89, R111). -/
theorem endStaging_makes_wait {c₀ : Context} {src : Source} (hx : stepOf s c c.idx = some x)
    (hsrc : x.advance.source = some src) (hlatch : (s.trig.latch src).pending = false)
    (hctx : s.player.out.context? = some (k, c₀)) (hq : s.queue = []) :
    endStaging k c s = makeWait src { who := c.holder, number := k } (s.setContext { c with phase := some .waiting }) := by
  rw [endStaging_waits hx hsrc hlatch]
  exact select_unheaded (Output.context_withContext { c with phase := some .waiting } hctx) hq

end

/-- Settles O37: what stays lit and where the context goes, by its next position and what stands at the link. -/
theorem holdsAndGapsEnd : Obligations.HoldsAndGapsEnd := by
  intro s k d c hctx now stopped ended swapping
  have hafter := Output.after_of_context hctx d
  have hnow : now.player.out.context? = some (k, c) := (congrArg Output.context? hafter).trans hctx
  refine ⟨fun x hx htimer hphase hgap => ?_, fun x y j r i hx htimer hphase hgap hnext hy htimed hq hstate hidentity hnumber hidx
    hstage => ?_, fun htimer hphase => ⟨fun hnext => ⟨fun q hout hport => ?_, fun hout => ?_⟩,
      fun j r i hnext hq hidentity hnumber hidx => ?_,
      fun j r e rest own hnext hout hknown hup hlevel hq habove hadmit => ?_⟩⟩
  · refine ⟨_, exec_holdTimerExpiry hctx hphase htimer, ?_⟩
    rw [endHold, show stepOf now c c.idx = some x from hx]
    dsimp only
    rw [if_neg hgap, endLights, keptChannels_of_gap hgap]
    refine ⟨fun ch => (light_lightsOff (stopTimers now) ch).1, ?_⟩
    show ({ now with player := { now.player with
      holdTimer := none, gapTimer := some (x.gap * 10), out := now.player.out.withContext { c with phase := some .gap } }
                     lights := s.lights } : State) = _
    rw [show now.player.out = s.player.out from hafter]
    rfl
  · have hready : now.link.ready k j i := ⟨hstate, hidentity, hnumber, hidx, hstage⟩
    have hend := endHold_swaps (s := now) hx hgap hnext hy htimed hnow hq hready
    refine ⟨_, (exec_holdTimerExpiry hctx hphase htimer).trans (congrArg Host.Outcome.next hend), fun ch => ?_, ?_⟩
    · exact (light_lightRequest { who := c.holder, number := k } (x.mask &&& y.mask) (stopTimers now) ch).1
    · exact (congrArg (fun o : Output => ({ now with
        lights := s.lights, link := swapping i
        player := { s.player with
          holdTimer := none, gapTimer := none
          out := o.withContext { c with idx := j, remaining := r, phase := some .hold } } } : State)) hafter :)
  · have hcomplete := exec_gapTimerExpiry hctx hphase htimer
    rw [endGap_none (s := stopTimers now) hnext, complete,
      show (stopTimers now).player.out = .running k c from hafter.trans hout, hport] at hcomplete
    exact hcomplete
  · have hcomplete := exec_gapTimerExpiry hctx hphase htimer
    rw [endGap_none (s := stopTimers now) hnext, complete,
      show (stopTimers now).player.out = .fallback k c from hafter.trans hout] at hcomplete
    exact hcomplete
  · intro moved
    have hexec := exec_gapTimerExpiry hctx hphase htimer
    rw [endGap_goes_on (s := stopTimers now) hnext hnow hq] at hexec
    have hout (c' : Context) : ((stopTimers now).setContext (c.moved j r)).setContext c' =
        stopped.setOut (s.player.out.withContext c') := by
      rw [State.setContext_setContext, ← show now.player.out = s.player.out from hafter]
      rfl
    refine ⟨fun hstage => ?_, fun y hstage hstate hy => ?_⟩
    · rw [hexec, stageNext_late (s := (stopTimers now).setContext (c.moved j r)) hidentity hnumber hidx hstage, hout]
      rfl
    · have hready : ((stopTimers now).setContext (c.moved j r)).link.ready k (c.moved j r).idx i :=
        ⟨hstate, hidentity, hnumber, hidx, hstage⟩
      rw [stageNext_ready hready] at hexec
      have hcontext : ((stopTimers now).setContext (c.moved j r)).player.out.context? = some (k, c.moved j r) :=
        Output.context_withContext _ hnow
      have hstep : stepOf ((stopTimers now).setContext (c.moved j r)) (c.moved j r) (c.moved j r).idx = some y := hy
      refine ⟨fun hadvance => ?_, fun src hsrc hlatch => ?_, fun src hsrc hlatch => ?_⟩
      · rw [hexec, endStaging_timed hstep hadvance, beginSwap_ready hready, hout]
        rfl
      · rw [hexec, endStaging_swaps hstep hsrc hlatch hcontext hq hready, hout]
        rfl
      · rw [hexec, endStaging_makes_wait hstep hsrc hlatch hcontext hq, hout]
        rfl
  · have hexec := exec_gapTimerExpiry hctx hphase htimer
    rw [endGap_preempted (s := stopTimers now) hnext (hafter.trans hout) hknown hup hlevel hq habove
      ((s.player.admits_iff _).mpr hadmit)] at hexec
    refine hexec.trans ((congrArg (fun o => Host.Outcome.next (select (stopped.setOut o))) ?_).trans
      (exec_selectRequest (s := { stopped.setOut (.running k { c with idx := j, remaining := r, phase := some .staging }) with
        selects := s.selects + 1 }) (Nat.succ_pos _)).symm)
    exact congrArg (Output.withContext (c.moved j r)) (hafter.trans hout)

end Sys2Proof.Machine

/-! PROOF. Faults and link reports at the player (R77, R95 to R99). -/

namespace Sys2Proof.Machine

set_option Elab.async false

section
variable {s : State} {f : RaisedFault} {k : Nat}

/-! ## What the blocks hand the player is taken -/

theorem exec_linkFault {rest : List LinkEvent} (h : s.fromLink = .fault f :: rest) :
    exec (.faultTaken .link) s = .next (takeFault f { s with fromLink := rest }) := by
  show execFaultTaken .link s = _
  rw [execFaultTaken, h]

theorem exec_triggerFault {rest : List TrigEvent} (h : s.fromTrig = .fault f :: rest) :
    exec (.faultTaken .trigger) s = .next (takeFault f { s with fromTrig := rest }) := by
  show execFaultTaken .trigger s = _
  rw [execFaultTaken, h]

theorem exec_lightsFault {rest : List RaisedFault} (h : s.fromLights = f :: rest) :
    exec (.faultTaken .lights) s = .next (takeFault f { s with fromLights := rest }) := by
  show execFaultTaken .lights s = _
  rw [execFaultTaken, h]

theorem exec_linkReportTaken {up : Bool} {rf : ReportFault} {rest : List LinkEvent} (h : s.fromLink = .report up rf :: rest) :
    exec .linkReportTaken s = .next (takeReport up rf { s with fromLink := rest }) := by
  show execLinkReportTaken s = _
  rw [execLinkReportTaken, h]

theorem exec_reportFault {up : Bool} {rf : ReportFault} {rest : List LinkEvent} (h : s.fromLink = .report up rf :: rest)
    (hrf : rf ≠ .none) : exec (.faultTaken .link) s = .next (takeReport up rf { s with fromLink := rest }) := by
  show execFaultTaken .link s = _
  rw [execFaultTaken, h]
  exact congrArg Host.Outcome.next (if_neg hrf)

theorem takeFault_present (h : s.player.out.number? = some f.number) : takeFault f s = faultHolder f s := if_pos h

theorem takeFault_earlier (h : s.player.out.number? ≠ some f.number) : takeFault f s = s := if_neg h

/-! ## A fault by the holder of the output (R95, R96, R99) -/

/-- The step a fault against a running context concerns: the one it names, else the context's (R95). -/
def RaisedFault.itemOf (f : RaisedFault) (s : State) (c : Context) : Option (Nat × SlotId) :=
  f.item <|> (stepOf s c c.idx).map fun x => (c.idx, x.slot)

theorem faultHolder_running {c : Context} {q : PortId} (hout : s.player.out = .running k c) (hport : c.port = some q) :
    let r : FaultRecord :=
      { kind := f.kind, holder := .context, seq := some c.seq, idx := (f.itemOf s c).map Prod.fst
        slot := (f.itemOf s c).map Prod.snd, port := some q, level := c.level, reason := f.reason }
    faultHolder f s = afterFault f.kind ((useRelease c.seq ((((silence k s).setRecord r).notifyControl (.playerFault r)).notify q
      (.contextAborted c.tag (.faulted f.kind) (((f.itemOf s c).map Prod.fst).getD c.idx) c.late))).setOut .idle) := by
  intro r
  have hrecord : s.player.out.record s f = some r := by
    rw [hout, Output.record, hport]
    rfl
  rw [faultHolder, hrecord]
  dsimp only
  rw [hout]
  dsimp only
  rw [hport]
  rfl

theorem faultHolder_fallback {c : Context} (hout : s.player.out = .fallback k c) : faultHolder f s = halt k c
    { kind := f.kind, holder := .fallback, seq := some c.seq, idx := (f.itemOf s c).map Prod.fst
      slot := (f.itemOf s c).map Prod.snd, port := none, level := none, reason := f.reason } s := by
  unfold faultHolder
  rw [hout]
  rfl

theorem faultHolder_direct {d : Direct} (hout : s.player.out = .direct k d) :
    let item := f.item <|> d.shows.head?.map fun x => (x.number.toNat, x.slot)
    let r : FaultRecord :=
      { kind := f.kind, holder := .direct, seq := none, idx := item.map Prod.fst, slot := item.map Prod.snd
        port := some d.port, level := some d.level, reason := f.reason }
    faultHolder f s = afterFault f.kind ((((lightsOff (endDirect s)).setRecord r).notifyControl (.playerFault r)).notify d.port
      (.directEnded .fault d.level d.shows.length none)) := by
  unfold faultHolder
  rw [hout]
  rfl

theorem endDirect_offering {o : Offer} (hout : s.player.out = .offering k o) : endDirect s = (discard k s).setOut .idle := by
  rw [endDirect, hout]

theorem faultHolder_offering {o : Offer} (hout : s.player.out = .offering k o) :
    let r : FaultRecord :=
      { kind := f.kind, holder := .direct, seq := none, idx := f.item.map Prod.fst, slot := f.item.map Prod.snd
        port := some o.port, level := some o.level, reason := f.reason }
    faultHolder f s = afterFault f.kind ((((lightsOff ((discard k s).setOut .idle)).setRecord r).notifyControl
      (.playerFault r)).notify o.port (.directEnded .fault o.level 0 none)) := by
  rw [← endDirect_offering hout]
  unfold faultHolder
  rw [hout]
  rfl

/-! ## After a fault (R96, R98) -/

theorem afterFault_some {kind : FaultKind} {n : SeqId} (h : s.player.designated = some n) : afterFault kind s =
    if kind = .linkDown ∨ kind = .linkTimeout then select s else startFallback n kind s := by
  rw [afterFault, h]
  show (if kind ≠ .linkDown ∧ kind ≠ .linkTimeout then startFallback n kind s else select s) = _
  by_cases hkind : kind = .linkDown ∨ kind = .linkTimeout
  · rw [if_pos hkind, if_neg fun h => hkind.elim h.1 h.2]
  · rw [if_neg hkind, if_pos (not_or.mp hkind)]

theorem afterFault_none {kind : FaultKind} (h : s.player.designated = none) : afterFault kind s = select s := by
  rw [afterFault, h]

/-- The end of an offer or a holding changes nothing of the player but what holds the output (R135). -/
theorem endDirect_player : { (endDirect s).player with out := s.player.out } = s.player := by
  unfold endDirect
  split
  next n o _ => exact (congrArg (fun x : Player => { x with out := s.player.out }) (discard_player n) :)
  next n d _ =>
    dsimp only [State.setOut]
    rw [pinRelease_player, discard_player]
    split <;> rfl
  next => rfl

/-! ## The halt (R99, R127) -/

/-- A discard leaves the state of the link, and a pending blank, as they are (R126). -/
theorem discard_linkState : (discard k s).link.state = s.link.state := by
  unfold discard Link.dropIdentity
  repeat' split
  all_goals rfl

/-- A blank request sends its BLANK at an IDLE link, and is kept otherwise (R127). -/
theorem blankRequest_link : (s.link.state = .idle → (blankRequest s).link = s.link.sendBlank)
    ∧ (s.link.state ≠ .idle → (blankRequest s).link = { s.link with pendingBlank := true }) := by
  unfold blankRequest
  exact ⟨fun h => congrArg State.link (if_pos h), fun h => congrArg State.link (if_neg h)⟩

theorem light_silence (ch : ChannelId) : ((silence k s).light ch).on = false ∧ ((silence k s).light ch).limit = (s.light ch).limit
    ∧ ((silence k s).light ch).trip = (s.light ch).trip := by
  have hlight : (discard k (cancelWait (stopTimers s))).light ch = s.light ch :=
    (congrArg (fun t : State => t.light ch) (discard_others k (cancelWait (stopTimers s))) :)
  rw [← hlight]
  exact light_lightsOff (discard k (cancelWait (stopTimers s))) ch

/-- A use release does the same whatever the rest of the part holds. -/
theorem useRelease_of_stored {t : State} (n : SeqId) (h : t.stored s = t) : useRelease n t = t.stored (useRelease n s) := by
  rw [← useRelease_stored, h]

theorem halt_others (c : Context) (r : FaultRecord) : { halt k c r s with link := s.link, lights := s.lights } =
    ({ s with
      slots := (useRelease c.seq s).slots, seqs := (useRelease c.seq s).seqs, poolFree := (useRelease c.seq s).poolFree
      trig := { s.trig with wait := none }
      player := { s.player with
        out := .halted, holdTimer := none, gapTimer := none, haltRecord := s.player.faultRecord
        faultRecord := some r } } : State).notifyControl (.playerHalted s.player.faultRecord r) := by
  obtain ⟨t, ht⟩ : ∃ t, t = blankRequest (silence k s) := ⟨_, rfl⟩
  have hframe : { t with link := s.link, lights := s.lights } =
      { s with trig := { s.trig with wait := none }, player := { s.player with holdTimer := none, gapTimer := none } } := by
    rw [ht]
    exact (congrArg (fun u : State => { u with link := s.link, lights := s.lights }) (blankRequest_others (silence k s)) :).trans
      (silence_others k s)
  have hstored : t.stored s = t := by
    have hslots : t.slots = s.slots := (congrArg State.slots hframe :)
    have hseqs : t.seqs = s.seqs := (congrArg State.seqs hframe :)
    have hpool : t.poolFree = s.poolFree := (congrArg State.poolFree hframe :)
    rw [State.stored, ← hslots, ← hseqs, ← hpool]
  have hrelease := useRelease_of_stored (s := s)
    (t := { t with player := { t.player with haltRecord := t.player.faultRecord, faultRecord := some r } }) c.seq
    (congrArg (fun u : State => { u with
      player := { t.player with haltRecord := t.player.faultRecord, faultRecord := some r } }) hstored :)
  rw [halt, ← ht, hrelease]
  exact (congrArg (fun u : State => (({ u with
    player := { u.player with haltRecord := u.player.faultRecord, faultRecord := some r } } : State).stored
      (useRelease c.seq s)).setOut .halted |>.notifyControl (.playerHalted u.player.faultRecord r)) hframe :)

theorem halt_link (c : Context) (r : FaultRecord) : (halt k c r s).link = (blankRequest (silence k s)).link :=
  useRelease_link _ _

theorem light_halt (c : Context) (r : FaultRecord) (ch : ChannelId) : ((halt k c r s).light ch).on = false
    ∧ ((halt k c r s).light ch).limit = (s.light ch).limit ∧ ((halt k c r s).light ch).trip = (s.light ch).trip := by
  have hlights : (halt k c r s).lights = (silence k s).lights :=
    (useRelease_lights _ _).trans (congrArg State.lights (blankRequest_others (silence k s)) :)
  have hlight : (halt k c r s).light ch = (silence k s).light ch := congrArg (fun l : Vector Light 4 => l[ch]) hlights
  rw [hlight]
  exact light_silence ch

/-! ## The fallback starts (R98) -/

theorem startFallback_others {n : SeqId} (kind : FaultKind) (hsealed : (s.seq n).state = .sealed) :
    { startFallback n kind s with link := s.link, fromLink := s.fromLink } =
      ({ s.setSeq n { s.seq n with uses := (s.seq n).uses + 1 } with
        trig := { s.trig with latchA := Latch.clear, latchB := Latch.clear, latchSoft := Latch.clear }
        player := { s.player with
          lastNumber := s.player.lastNumber + 1
          out := .fallback (s.player.lastNumber + 1)
            { seq := n, port := none, tag := 0xFFFF, level := none, idx := 0, remaining := passes (s.seq n).repeatCount
              phase := some .staging, cut := false, late := 0 } } } : State).notifyControl (.fallbackStarted n kind) := by
  have hcount : ((s.setSeq n { s.seq n with uses := (s.seq n).uses + 1 }).seq n).repeatCount = (s.seq n).repeatCount := by
    rw [State.seq_setSeq, if_pos rfl]
  rw [startFallback, useRaise_of_sealed hsealed, Option.getD_some]
  dsimp only
  rw [hcount]
  exact requestStep_others _ _ _ _

theorem startFallback_idle {n : SeqId} {x : Step} (kind : FaultKind) (hsealed : (s.seq n).state = .sealed)
    (hx : (s.seq n).steps[0]? = some x) (hlink : s.link.state = .idle) (hblank : s.link.pendingBlank = false) :
    let t := startFallback n kind s
    t.fromLink = s.fromLink ∧ t.link.state = .transmitting ∧ t.link.sent = some (.load x.slot)
      ∧ t.link.identity = some { holder := { who := .fallback, number := s.player.lastNumber + 1 }, idx := 0, slot := x.slot
                                 verify := x.verify, stage := .sending } := by
  have hsteps : (s.setSeq n { s.seq n with uses := (s.seq n).uses + 1 }).seq n = { s.seq n with uses := (s.seq n).uses + 1 } := by
    rw [State.seq_setSeq, if_pos rfl]
  rw [startFallback, useRaise_of_sealed hsealed, Option.getD_some]
  refine requestStep_idle _ _ _ x _ ?_ hlink hblank
  show ((s.setSeq n { s.seq n with uses := (s.seq n).uses + 1 }).seq n).steps[0]? = some x
  rw [hsteps]
  exact hx

end

/-- Settles O38: the fault by who holds the output, and the report by what comes with it. -/
theorem faultsAndReportsAreTaken : Obligations.FaultsAndReportsAreTaken := by
  intro s f rest next item stepItem directRecord recorded
  have hafter (u : State) (hdesignated : u.player.designated = s.player.designated) : afterFault f.kind u = next u := by
    dsimp only [next]
    cases hd : s.player.designated with
    | none => exact afterFault_none (hdesignated.trans hd)
    | some n => exact afterFault_some (hdesignated.trans hd)
  have hitem (x : Option (Nat × SlotId)) : (f.item <|> x) = item x := by
    dsimp only [item]
    cases f.item <;> rfl
  refine ⟨fun h hnot => ?_, fun rest' h hnot => ?_, fun rest' h hnot => ?_, fun rest' h => ?_, fun rest' h => ?_,
    ?_, fun d h hout => ?_, fun o h hout => ?_, ?_, ?_, fun h => ?_, fun h => ?_, fun h => ?_,
    fun h => ⟨fun hout => ?_, fun n hn => ?_⟩, fun rf h hrf => ?_⟩
  · rw [exec_linkFault h, takeFault_earlier (s := { s with fromLink := rest }) hnot]
  · rw [exec_triggerFault h, takeFault_earlier (s := { s with fromTrig := rest' }) hnot]
  · rw [exec_lightsFault h, takeFault_earlier (s := { s with fromLights := rest' }) hnot]
  · exact (exec_triggerFault h).trans
      (exec_linkFault (s := { s with fromTrig := rest', fromLink := .fault f :: s.fromLink }) rfl).symm
  · exact (exec_lightsFault h).trans
      (exec_linkFault (s := { s with fromLights := rest', fromLink := .fault f :: s.fromLink }) rfl).symm
  · intro c q h hout hport record told ended
    have hholder := faultHolder_running (f := f) (s := { s with fromLink := rest }) hout hport
    simp only [show f.itemOf { s with fromLink := rest } c = stepItem c from hitem _] at hholder
    refine ⟨?_, fun ch => ?_⟩
    · rw [exec_linkFault h, takeFault_present (s := { s with fromLink := rest }) (congrArg Output.number? hout), hholder]
      refine congrArg Host.Outcome.next (hafter ended ?_)
      rw [State.setOut_player, useRelease_player]
      exact (congrArg Player.designated (silence_player (s := { s with fromLink := rest }) f.number) :)
    · have hlights : ended.lights = (silence f.number { s with fromLink := rest }).lights := useRelease_lights _ _
      exact dark_of_lights hlights (silence_dark (s := { s with fromLink := rest }) f.number) ch
  · have hholder := faultHolder_direct (f := f) (s := { s with fromLink := rest }) hout
    simp only [hitem] at hholder
    rw [exec_linkFault h, takeFault_present (s := { s with fromLink := rest }) (congrArg Output.number? hout), hholder]
    refine congrArg Host.Outcome.next (hafter _ ?_)
    exact (congrArg Player.designated (endDirect_player (s := { s with fromLink := rest })) :)
  · have hholder := faultHolder_offering (f := f) (s := { s with fromLink := rest }) hout
    rw [exec_linkFault h, takeFault_present (s := { s with fromLink := rest }) (congrArg Output.number? hout), hholder]
    refine congrArg Host.Outcome.next (hafter _ ?_)
    exact (congrArg Player.designated (discard_player (s := { s with fromLink := rest }) f.number) :)
  · intro c h hout record released
    have hholder := faultHolder_fallback (f := f) (s := { s with fromLink := rest }) hout
    rw [show f.itemOf { s with fromLink := rest } c = stepItem c from hitem _] at hholder
    have hlink : (silence f.number { s with fromLink := rest }).link.state = s.link.state := discard_linkState
    have hstate : (silence f.number { s with fromLink := rest }).link.state = .idle ↔ s.link.state = .idle := by rw [hlink]
    refine ⟨_, (exec_linkFault h).trans (congrArg Host.Outcome.next
      ((takeFault_present (s := { s with fromLink := rest }) (congrArg Output.number? hout)).trans hholder)),
      fun ch => ?_, ?_, fun hidle => ?_, fun hbusy => ?_⟩
    · exact light_halt (s := { s with fromLink := rest }) c record ch
    · have hothers := halt_others (s := { s with fromLink := rest }) (k := f.number) c record
      rwa [useRelease_of_stored (s := s) (t := { s with fromLink := rest }) c.seq rfl] at hothers
    · rw [halt_link, blankRequest_link.1 (hstate.mpr hidle)]
      exact ⟨rfl, rfl, rfl⟩
    · rw [halt_link, blankRequest_link.2 (mt hstate.mp hbusy)]
      exact ⟨hlink, rfl⟩
  · intro n kind hsealed k cleared count t
    exact ⟨startFallback_others kind hsealed, fun x hx hlink hblank => startFallback_idle kind hsealed hx hlink hblank⟩
  · exact exec_linkReportTaken h
  · exact exec_linkReportTaken h
  · exact (exec_linkReportTaken h).trans
      (exec_linkFault (s := { s with fromLink := .fault f :: rest, player := { s.player with linkUp := false } }) rfl).symm
  · rw [exec_linkReportTaken h, takeReport]
    obtain hidle | hhalted := hout
    · rw [show ({ s with fromLink := rest, player := { s.player with linkUp := false } } : State).player.out.number? = none from
        congrArg Output.number? hidle]
      rfl
    · rw [show ({ s with fromLink := rest, player := { s.player with linkUp := false } } : State).player.out.number? = none from
        congrArg Output.number? hhalted]
      rfl
  · have hnumber : ({ s with fromLink := rest, player := { s.player with linkUp := false } } : State).player.out.number? = some n := hn
    rw [exec_linkReportTaken h, takeReport]
    dsimp only
    rw [if_neg Bool.false_ne_true, hnumber]
    exact ((exec_linkFault (s := { s with
      fromLink := .fault { kind := .linkDown, number := n, item := none, reason := none } :: rest
      player := { s.player with linkUp := false } }) rfl).trans (congrArg Host.Outcome.next (takeFault_present hnumber))).symm
  · exact (exec_reportFault h hrf).trans (exec_linkReportTaken h).symm

end Sys2Proof.Machine

/-! PROOF. Offers and holdings of direct mode (R87, R134 to R137, R140 to R143). -/

namespace Sys2Proof.Machine

set_option Elab.async false

section
variable {s : State} {p : PortId} {k : Nat}

/-! ## The endings, and a change of the requests to select -/

theorem discard_selects (n : Nat) : discard k { s with selects := n } = { discard k s with selects := n } := by
  unfold discard
  dsimp only
  split
  · split <;> rfl
  · rfl

theorem pinRelease_selects_comm (l : List SlotId) (n : Nat) :
    pinRelease l { s with selects := n } = { pinRelease l s with selects := n } := by
  refine (pinRelease_stored l { s with selects := n } s).trans ?_
  have hframe := pinRelease_frame l s
  have hseqs : (pinRelease l s).seqs = s.seqs := (congrArg State.seqs hframe :)
  have hpool : (pinRelease l s).poolFree = s.poolFree := (congrArg State.poolFree hframe :)
  rw [State.stored, hseqs, hpool]
  exact (congrArg (fun t : State => { t with slots := (pinRelease l s).slots, selects := n }) hframe :).symm

/-- The end of an offer or of a holding neither asks for selections nor looks at those asked for (R135). -/
theorem endDirect_selects (n : Nat) : endDirect { s with selects := n } = { endDirect s with selects := n } := by
  unfold endDirect
  dsimp only
  split
  · rw [discard_selects]
    rfl
  next m d _ =>
    have hlights : (if d.shows.any (fun x => x.stage == .hold) = true then lightsOff { s with selects := n } else { s with selects := n })
        = { (if d.shows.any (fun x => x.stage == .hold) = true then lightsOff s else s) with selects := n } := by
      split <;> rfl
    rw [hlights, discard_selects, pinRelease_selects_comm]
    rfl
  · rfl

theorem endDirect_selects_eq : (endDirect s).selects = s.selects := by
  have h := congrArg State.selects (endDirect_selects (s := s) s.selects)
  exact h

/-! ## The requests of the holder (R137, R142) -/

theorem acceptDirect_offered {o : Offer} (hout : s.player.out = .offering k o) (hport : o.port = p) :
    acceptDirect p [] s =
      done (u8 o.level) ((clearLatches s).setOut (.direct k { port := p, level := o.level, shows := [], timer := none })) := by
  rw [acceptDirect, ofLength_of_length_eq (show ([] : List Byte).length = 0 from rfl), hout]
  exact if_pos hport

theorem acceptDirect_refused (h : ∀ m o, s.player.out = .offering m o → o.port ≠ p) :
    acceptDirect p [] s = refuse .wrongState s := by
  rw [acceptDirect, ofLength_of_length_eq (show ([] : List Byte).length = 0 from rfl)]
  split
  next m o hout => exact if_neg (h m o hout)
  · rfl

theorem withdraws_iff : s.queue.any (Entry.isDirect p) = true ↔ ∃ x ∈ s.queue, x.port = p ∧ x.ask = .direct := by
  simp only [List.any_eq_true, Entry.isDirect_iff]

/-- With one DIRECT entry of the port, a withdrawal takes out that one (R142). -/
theorem withdraw_one {before after : List Entry} {e : Entry} (hq : s.queue = before ++ e :: after) (hport : e.port = p)
    (hask : e.ask = .direct) (hrest : ∀ x ∈ before ++ after, ¬ (x.port = p ∧ x.ask = .direct)) :
    withdraw p s = { s with queue := before ++ after } := by
  have hkept : ∀ x ∈ before ++ after, (!x.isDirect p) = true := fun x hx =>
    Bool.not_eq_true' _ ▸ Bool.eq_false_iff.mpr (mt Entry.isDirect_iff.mp (hrest x hx))
  have hgone : ¬ (!e.isDirect p) = true := by
    rw [Entry.isDirect_iff.mpr ⟨hport, hask⟩]
    exact nofun
  have hfilter : (before ++ e :: after).filter (fun e => !e.isDirect p) = before ++ after := by
    rw [List.filter_append, List.filter_cons_of_neg (p := fun e => !Entry.isDirect p e) hgone, ← List.filter_append, List.filter_eq_self.mpr hkept]
  rw [withdraw, hq, hfilter]

theorem releaseDirect_withdraws (h : s.queue.any (Entry.isDirect p) = true) :
    releaseDirect p [] s = done (u8 0 ++ u8 0) (withdraw p s) :=
  (ofLength_of_length_eq (show ([] : List Byte).length = 0 from rfl)).trans (if_pos h)

theorem releaseDirect_offered {o : Offer} (h : ¬ s.queue.any (Entry.isDirect p) = true) (hout : s.player.out = .offering k o)
    (hport : o.port = p) : releaseDirect p [] s = done (u8 1 ++ u8 0) (endDirect s) := by
  refine (ofLength_of_length_eq (show ([] : List Byte).length = 0 from rfl)).trans ((if_neg h).trans ?_)
  rw [hout]
  exact if_pos hport

theorem releaseDirect_held {d : Direct} (h : ¬ s.queue.any (Entry.isDirect p) = true) (hout : s.player.out = .direct k d)
    (hport : d.port = p) : releaseDirect p [] s = done (u8 2 ++ u8 d.shows.length) (endDirect s) := by
  refine (ofLength_of_length_eq (show ([] : List Byte).length = 0 from rfl)).trans ((if_neg h).trans ?_)
  rw [hout]
  exact if_pos hport

theorem sessionEndPlayer_party (h : s.player.out.directParty.map Prod.fst = some p) :
    sessionEndPlayer p s = select (endDirect s) := by
  obtain ⟨d, hd, hp⟩ := Option.map_eq_some_iff.mp h
  exact if_pos (Output.directOf_iff.mpr ⟨d, hd, hp⟩)

theorem sessionEndPlayer_other (h : s.player.out.directParty.map Prod.fst ≠ some p) : sessionEndPlayer p s = s :=
  if_neg fun hof => h <| by
    obtain ⟨d, hd, hp⟩ := Output.directOf_iff.mp hof
    rw [hd, ← hp]
    rfl

/-! ## Preemption of an offer and of a holding (R87, R134, R141) -/

/-- The head show of a holding is in SWAPPING or HOLD exactly when the holding is not at a preemptible point (R140). -/
theorem Direct.preemptible_iff {d : Direct} : d.preemptible = true ↔
    ¬ ∃ x, d.shows.head? = some x ∧ (x.stage = .swapping ∨ x.stage = .hold) := by
  unfold Direct.preemptible
  cases d.shows with
  | nil => simp
  | cons x rest => simp

theorem endDirectWith_eq {reason : EndReason} {byLevel : Option Nat} {level shows : Nat}
    (h : s.player.out.directParty = some (p, level, shows)) :
    endDirectWith reason byLevel s = (endDirect s).notify p (.directEnded reason level shows byLevel) := by
  rw [endDirectWith, notifyDirectEnded, h]

theorem select_offering {o : Offer} (hup : s.player.linkUp = true) (hout : s.player.out = .offering k o) : select s =
    if o.level < s.headLevel then selectHead (endDirectWith .preempted (some s.headLevel) s) else s := by
  simp [select, hup, hout]

theorem select_direct {d : Direct} (hup : s.player.linkUp = true) (hout : s.player.out = .direct k d) : select s =
    if d.level < s.headLevel ∧ (s.headLevel = 7 ∨ d.preemptible = true) then
      selectHead (endDirectWith .preempted (some s.headLevel) s) else s := by
  simp [select, hup, hout]

theorem endDirect_idle {d : PortId × Nat × Nat} (h : s.player.out.directParty = some d) : (endDirect s).player.out = .idle := by
  refine endDirect_out ?_ ?_ <;> cases hout : s.player.out <;> simp_all [Output.directParty, Output.context?]

/-- A preempted offer or holding leaves a state from which selection takes the head (R87). -/
theorem exec_selectRequest_preempts {level shows headLevel : Nat} (hselects : 0 < s.selects) (hup : s.player.linkUp = true)
    (hparty : s.player.out.directParty = some (p, level, shows)) :
    exec .selectRequest ((endDirect s).notify p (.directEnded .preempted level shows (some headLevel))) =
      .next (selectHead (endDirectWith .preempted (some headLevel) { s with selects := s.selects - 1 })) := by
  have hended : endDirectWith .preempted (some headLevel) { s with selects := s.selects - 1 } =
      { (endDirect s).notify p (.directEnded .preempted level shows (some headLevel)) with selects := (endDirect s).selects - 1 } := by
    rw [endDirectWith_eq (s := { s with selects := s.selects - 1 }) hparty, endDirect_selects, endDirect_selects_eq]
    rfl
  have hlink : (endDirect s).player.linkUp = true := (congrArg Player.linkUp endDirect_player :).trans hup
  rw [hended]
  refine (exec_selectRequest (s := (endDirect s).notify p (.directEnded .preempted level shows (some headLevel))) ?_).trans
    (congrArg Host.Outcome.next (select_idle ?_ ?_))
  · rw [State.notify_selects, endDirect_selects_eq]
    exact hselects
  · exact hlink
  · exact endDirect_idle hparty

end

/-- Settles O39: what ends an offer or a holding, each time by who holds the output. -/
theorem offersAndHoldingsBeginAndEnd : Obligations.OffersAndHoldingsBeginAndEnd := by
  intro s p k level d shows timer answer offered holding
  refine ⟨fun hout hask => ?_, fun hask hnone => ?_, fun hask => ⟨fun before after e hq hport hdirect hrest => ?_, fun hnone =>
    ⟨fun hout => ?_, fun hout => ?_⟩⟩, fun hout => ?_, ?_, ?_, fun hout => ?_⟩
  · rw [exec_acceptDirect_asked hask, acceptDirect_offered hout rfl]
    rfl
  · rw [exec_acceptDirect_asked hask, acceptDirect_refused hnone]
    rfl
  · have hany : s.queue.any (Entry.isDirect p) = true :=
      withdraws_iff.mpr ⟨e, hq ▸ List.mem_append_right _ List.mem_cons_self, hport, hdirect⟩
    rw [exec_releaseDirect_asked hask, releaseDirect_withdraws hany, if_pos hany, withdraw_one hq hport hdirect hrest]
    rfl
  · have hany : ¬ s.queue.any (Entry.isDirect p) = true := fun h => by
      obtain ⟨x, hx, hdirect⟩ := withdraws_iff.mp h
      exact hnone x hx hdirect
    rw [exec_releaseDirect_asked hask, releaseDirect_offered hany hout rfl, if_neg hany, endDirect_offering hout]
    rfl
  · have hany : ¬ s.queue.any (Entry.isDirect p) = true := fun h => by
      obtain ⟨x, hx, hdirect⟩ := withdraws_iff.mp h
      exact hnone x hx hdirect
    rw [exec_releaseDirect_asked hask, releaseDirect_held hany hout rfl, if_neg hany]
    rfl
  · have hwindow : s.player.out.window? = some d := by rw [hout]; rfl
    have helapsed : (s.elapse d).player.out = .offering k { port := p, level := level, window := timerAfter d (some d) } := by
      show s.player.out.after d = _
      rw [hout]
      rfl
    refine congrArg Host.Outcome.next ?_
    rw [hwindow, expire_some, endDirectWith_eq (by rw [helapsed]; rfl), endDirect_offering helapsed]
  · intro x before after hannounced hblock hport hbefore taken
    have hexec : exec (.sessionEndPlayer p) s = .next (sessionEndPlayer p taken) :=
      congrArg Host.Outcome.next (takeAnnouncement_found hannounced hblock hport hbefore _)
    refine ⟨fun hout => ?_, fun hout => ?_, fun hother => ?_⟩
    · rw [hexec, sessionEndPlayer_party (s := taken) (congrArg (fun o => (Output.directParty o).map Prod.fst) hout),
        endDirect_offering (s := taken) hout]
    · rw [hexec, sessionEndPlayer_party (s := taken) (congrArg (fun o => (Output.directParty o).map Prod.fst) hout)]
    · rw [hexec, sessionEndPlayer_other (s := taken) hother]
  · intro e rest hselects hup hq hadmit shown idle
    have hhead : idle.headLevel = e.level := State.headLevel_admitted (s := idle) hq ((s.player.admits_iff _).mpr hadmit)
    have hexec := exec_selectRequest hselects
    refine ⟨fun hout => ⟨fun habove => ?_, fun hbelow => ?_⟩, fun hout => ⟨fun habove hpoint => ?_, fun hnot => ?_⟩⟩
    · have hparty : s.player.out.directParty = some (p, level, 0) := congrArg Output.directParty hout
      rw [← endDirect_offering hout, exec_selectRequest_preempts hselects hup hparty, hexec]
      refine congrArg Host.Outcome.next ((select_offering (s := idle) hup hout).trans ?_)
      rw [hhead]
      exact if_pos habove
    · refine hexec.trans (congrArg Host.Outcome.next ((select_offering (s := idle) hup hout).trans ?_))
      rw [hhead]
      exact if_neg (Nat.not_lt.mpr hbelow)
    · have hparty : s.player.out.directParty = some (p, level, shows.length) := congrArg Output.directParty hout
      rw [exec_selectRequest_preempts hselects hup hparty, hexec]
      refine congrArg Host.Outcome.next ((select_direct (s := idle) hup hout).trans ?_)
      rw [hhead]
      exact if_pos ⟨habove, hpoint.imp_right Direct.preemptible_iff.mpr⟩
    · refine hexec.trans (congrArg Host.Outcome.next ((select_direct (s := idle) hup hout).trans ?_))
      rw [hhead, if_neg]
      rintro ⟨habove, hpoint⟩
      obtain hbelow | ⟨hnot7, hshown⟩ := hnot
      · exact absurd habove (Nat.not_lt.mpr hbelow)
      · exact hpoint.elim hnot7 fun h => Direct.preemptible_iff.mp h hshown
  · rw [endDirect, hout]
    rfl

end Sys2Proof.Machine

/-! PROOF. Shows of direct mode (R138 to R140). -/

namespace Sys2Proof.Machine

set_option Elab.async false

section
variable {s : State} {p : PortId} {k level : Nat} {timer : Option Nat} {x y : Show} {rest : List Show} {d : Direct}

/-! ## The body of a SHOW (R138) -/

theorem maskOf_toNat (m : Mask) : maskOf m.toNat = some m := by
  rw [maskOf, if_pos m.isLt, BitVec.ofNat_toNat, BitVec.setWidth_eq]

/-- A show as its SHOW body says it (R138). -/
def Show.body (x : Show) : List Byte :=
  [x.number] ++ slotBytes x.slot ++ le2 x.hold ++ [BitVec.ofNat 8 x.mask.toNat, if x.verify = true then 1 else 0]

theorem showOf_body (hmin : 1 ≤ x.hold) (hmax : x.hold ≤ 65535) : showOf x.body = some { x with stage := .waiting } := by
  have hslot : field2 x.body 1 = x.slot.val :=
    (field2_append_right [x.number] _ 0).trans (field2_slotBytes x.slot _)
  have hhold : field2 x.body 3 = x.hold :=
    (field2_append_right ([x.number] ++ slotBytes x.slot) _ 0).trans (field2_le2 x.hold (by omega) _)
  have hmask : field1 x.body 5 = x.mask.toNat :=
    Nat.mod_eq_of_lt (show x.mask.toNat < 2 ^ 8 by have := x.mask.isLt; omega)
  have hverify : boolOf (field1 x.body 6) = some x.verify := by
    show boolOf (if x.verify = true then 1 else 0 : Byte).toNat = _
    cases x.verify <;> rfl
  rw [showOf, hslot, slotOf_val, hmask, maskOf_toNat, hverify, hhold]
  exact if_neg (by omega)

/-! ## SHOW (R138) -/

theorem showPlane_joins {t : State} (hout : s.player.out = .direct k d) (hport : d.port = p) (hmin : 1 ≤ x.hold)
    (hmax : x.hold ≤ 65535) (hroom : d.shows.length < 2) (hnew : ∀ y ∈ d.shows, y.number ≠ x.number)
    (hraise : pinRaise [x.slot] s = .ok t) :
    showPlane p x.body s = done (u8 d.shows.length) (joinShow k d { x with stage := .waiting } t) := by
  have hnone : ¬ d.shows.any (fun y => y.number == x.number) = true := by
    simpa using hnew
  have hfull : ¬ Config.maxShows ≤ d.shows.length := Nat.not_le.mpr hroom
  rw [showPlane, ofLength_of_length_eq (show x.body.length = 7 from rfl), hout]
  dsimp only
  rw [if_pos hport, showOf_body hmin hmax]
  dsimp only
  rw [if_neg hnone, if_neg hfull, hraise]

theorem joinShow_staged (h : d.stagesNew = true) : joinShow k d x s =
    loadShow k d { x with stage := .staging } (s.setOut (.direct k { d with shows := d.shows ++ [{ x with stage := .staging }] })) :=
  if_pos h

theorem joinShow_waits (h : d.stagesNew = false) : joinShow k d x s = s.setOut (.direct k { d with shows := d.shows ++ [x] }) :=
  if_neg (Bool.eq_false_iff.mp h)

theorem loadRequest_player (h : HolderRef) (i : Nat) (n : SlotId) (v : Bool) : (loadRequest h i n v s).player = s.player :=
  (congrArg State.player (loadRequest_others h i n v s) :)

theorem selectForHead_one (hout : s.player.out = .direct k d) (h : d.shows.length = 1) : selectForHead s = select s := by
  rw [selectForHead, hout]
  exact if_pos h

theorem selectForHead_more (hout : s.player.out = .direct k d) (h : d.shows.length ≠ 1) : selectForHead s = s := by
  rw [selectForHead, hout]
  exact if_neg h

theorem exec_showPlane_done {body : List Byte} {a : List Byte} {t : State} (hask : Asked s p .showPlane (.atBlock .player) body)
    (h : showPlane p body s = done a t) :
    exec (.showPlane p) s = .next (selectForHead (t.reply p { status := .done, body := a })) := by
  rw [exec_showPlane_asked hask, h]
  rfl

/-! ## The answers of the link (R139) -/

/-- The LOADED answer of the head show sends it to the swap (R139). -/
theorem takeLoaded_head (hout : s.player.out = .direct k { d with shows := x :: rest }) (hstage : x.stage = .staging)
    (hnew : ∀ y ∈ rest, y.number ≠ x.number) : takeLoaded k x.number.toNat s =
      swapRequest (d.ref k) x.number.toNat x.slot
        (s.setOut (.direct k { d with shows := { x with stage := .swapping } :: rest })) := by
  have hmark : (x :: rest).map (fun z => if z.stage = .staging ∧ z.number.toNat = x.number.toNat then { z with stage := .loaded } else z)
      = { x with stage := .loaded } :: rest := by
    have hrest : ∀ y ∈ rest, (if y.stage = .staging ∧ y.number.toNat = x.number.toNat then { y with stage := .loaded } else y) = id y :=
      fun y hy => if_neg fun h => hnew y hy (BitVec.eq_of_toNat_eq h.2)
    rw [List.map_cons, if_pos ⟨hstage, rfl⟩, List.map_congr_left hrest, List.map_id]
  rw [takeLoaded, hout]
  dsimp only
  rw [if_pos rfl, showLoaded]
  dsimp only
  rw [hmark]
  rfl

/-- The SWAPPED answer of the head show (R139). -/
theorem takeSwapped_head (hout : s.player.out = .direct k { d with shows := x :: rest }) (hstage : x.stage = .swapping) :
    takeSwapped k x.number.toNat s = showSwapped k { d with shows := x :: rest } x rest s := by
  rw [takeSwapped, hout]
  exact if_pos ⟨rfl, hstage, rfl⟩

theorem showSwapped_waiting (hstage : y.stage = .waiting) : showSwapped k d x (y :: rest) s =
    loadShow k d { y with stage := .staging } ((lightRequest (d.ref k) x.mask (syncPulse s)).setOut
      (.direct k { d with shows := { x with stage := .hold } :: { y with stage := .staging } :: rest
                          timer := some (x.hold * 10) })) :=
  if_pos hstage

theorem showSwapped_alone (hrest : ∀ y ∈ rest, y.stage ≠ .waiting) : showSwapped k d x rest s =
    (lightRequest (d.ref k) x.mask (syncPulse s)).setOut
      (.direct k { d with shows := { x with stage := .hold } :: rest, timer := some (x.hold * 10) }) := by
  cases rest with
  | nil => rfl
  | cons y more => exact if_neg (hrest y List.mem_cons_self)

/-! ## The end of a show (R140) -/

/-- With no entry queued, a holding keeps the output (R87). -/
theorem select_unheaded_direct (hout : s.player.out = .direct k d) (hq : s.queue = []) : select s = s := by
  have hhead : s.headLevel = 0 := by rw [State.headLevel, hq]
  cases hup : s.player.linkUp with
  | false => exact select_linkDown hup
  | true => rw [select_direct hup hout, hhead, if_neg fun h => Nat.not_lt_zero _ h.1]

/-- What the end of a show leaves before the show behind it is looked at (R140). -/
def showEnded (k : Nat) (d : Direct) (x : Show) (rest : List Show) (s : State) : State :=
  (pinRelease [x.slot] ((lightsOff s).notify d.port (.showDone x.number x.slot))).setOut
    (.direct k { d with shows := rest, timer := none })

theorem endShow_unheaded (hout : s.player.out = .direct k { d with shows := x :: rest }) (hq : s.queue = []) :
    endShow s = swapHead (showEnded k d x rest s) := by
  have hqueue : (showEnded k d x rest s).queue = [] := (pinRelease_queue _ _).trans hq
  have hselect : select (showEnded k d x rest s) = showEnded k d x rest s := select_unheaded_direct rfl hqueue
  rw [endShow, hout]
  show (if (select (showEnded k d x rest s)).player.out.number? = some k then swapHead (select (showEnded k d x rest s))
    else select (showEnded k d x rest s)) = _
  rw [hselect]
  exact if_pos rfl

theorem swapHead_loaded (hout : s.player.out = .direct k { d with shows := y :: rest }) (hstage : y.stage = .loaded) :
    swapHead s = swapRequest (d.ref k) y.number.toNat y.slot
      (s.setOut (.direct k { d with shows := { y with stage := .swapping } :: rest })) := by
  rw [swapHead, hout]
  exact if_pos hstage

theorem swapHead_unloaded (hout : s.player.out = .direct k { d with shows := y :: rest }) (hstage : y.stage ≠ .loaded) :
    swapHead s = s := by
  rw [swapHead, hout]
  exact if_neg hstage

theorem swapHead_empty (hout : s.player.out = .direct k { d with shows := [] }) : swapHead s = s := by
  rw [swapHead, hout]

end

/-- Settles O40: SHOW by what stands ahead in the list, then the answers to the head show, and the end of its hold. -/
theorem showsArePlayed : Obligations.ShowsArePlayed := by
  intro s p k level timer x holding ref
  refine ⟨?_, fun rest tl hs h hstage hnew => ?_, fun rest tl hs h hstage htl => ?_, fun rest y more hs h hstage hwaits => ?_, ?_⟩
  · intro shows t hs hask hmin hmax hroom hnew hraise reply
    have hout : s.player.out = .direct k { port := p, level := level, shows := shows, timer := timer } :=
      (congrArg (fun u : State => u.player.out) hs :)
    have hexec := exec_showPlane_done hask (showPlane_joins hout rfl hmin hmax hroom hnew hraise)
    rw [hexec]
    obtain _ | ⟨y, _ | ⟨z, more⟩⟩ := shows
    · rw [joinShow_staged rfl]
      refine congrArg Host.Outcome.next (selectForHead_one (k := k)
        (d := { port := p, level := level, shows := [{ x with stage := .staging }], timer := timer }) ?_ rfl)
      exact (congrArg Player.out (loadRequest_player _ _ _ _) :)
    · by_cases hstage : y.stage = .hold
      · rw [joinShow_staged (by simp [Direct.stagesNew, hstage])]
        dsimp only
        rw [if_pos hstage]
        refine congrArg Host.Outcome.next (selectForHead_more (k := k)
          (d := { port := p, level := level, shows := [y, { x with stage := .staging }], timer := timer }) ?_ (by simp))
        exact (congrArg Player.out (loadRequest_player _ _ _ _) :)
      · rw [joinShow_waits (by simp [Direct.stagesNew, hstage])]
        dsimp only
        rw [if_neg hstage]
        exact congrArg Host.Outcome.next (selectForHead_more (k := k)
          (d := { port := p, level := level, shows := [y, { x with stage := .waiting }], timer := timer }) rfl (by simp))
    · exact absurd hroom (by simp)
  · have hout : s.player.out = .direct k { port := p, level := level, shows := x :: tl, timer := timer } :=
      (congrArg (fun u : State => u.player.out) hs :)
    rw [exec_loadedTaken h, takeLoaded_head (s := { s with fromLink := rest })
      (d := { port := p, level := level, shows := x :: tl, timer := timer }) hout hstage hnew]
    rfl
  · have hout : s.player.out = .direct k { port := p, level := level, shows := x :: tl, timer := timer } :=
      (congrArg (fun u : State => u.player.out) hs :)
    rw [exec_swappedTaken h, takeSwapped_head (s := { s with fromLink := rest })
      (d := { port := p, level := level, shows := x :: tl, timer := timer }) hout hstage, showSwapped_alone htl]
    rfl
  · have hout : s.player.out = .direct k { port := p, level := level, shows := x :: y :: more, timer := timer } :=
      (congrArg (fun u : State => u.player.out) hs :)
    rw [exec_swappedTaken h, takeSwapped_head (s := { s with fromLink := rest })
      (d := { port := p, level := level, shows := x :: y :: more, timer := timer }) hout hstage, showSwapped_waiting hwaits]
    rfl
  · intro d tl hs hq ended
    have hout : s.player.out = .direct k { port := p, level := level, shows := x :: tl, timer := some d } :=
      (congrArg (fun u : State => u.player.out) hs :)
    have htimer : s.player.out.showTimer? = some d := by rw [hout]; rfl
    have helapsed : (s.elapse d).player.out =
        .direct k { port := p, level := level, shows := x :: tl, timer := timerAfter d (some d) } := by
      show s.player.out.after d = _
      rw [hout]
      rfl
    have hend := endShow_unheaded (s := s.elapse d)
      (d := { port := p, level := level, shows := x :: tl, timer := timerAfter d (some d) }) helapsed hq
    refine congrArg Host.Outcome.next ?_
    rw [htimer, expire_some, hend]
    obtain _ | ⟨y, more⟩ := tl
    · exact swapHead_empty (s := ended) (k := k) (d := { port := p, level := level, shows := [], timer := none }) rfl
    · by_cases hstage : y.stage = .loaded
      · dsimp only
        rw [if_pos hstage]
        exact swapHead_loaded (s := ended) (k := k) (d := { port := p, level := level, shows := y :: more, timer := none }) rfl hstage
      · dsimp only
        rw [if_neg hstage]
        exact swapHead_unloaded (s := ended) (k := k) (d := { port := p, level := level, shows := y :: more, timer := none }) rfl hstage

end Sys2Proof.Machine

/-! PROOF. The packed form (R25). -/

namespace Sys2Proof.Machine

set_option Elab.async false

/-! ## One run -/

section
variable {rest : List Byte} {n m : Nat}

/-- An expansion with the bytes of a run before it. -/
def Expansion.after (y : Expansion) (l : List Byte) : Expansion := { y with out := l ++ y.out }

theorem Expansion.after_after (y : Expansion) (l k : List Byte) : (y.after l).after k = y.after (k ++ l) := by
  simp [Expansion.after]

theorem Expansion.length_after (y : Expansion) (l : List Byte) : (y.after l).out.length = l.length + y.out.length :=
  List.length_append

theorem expandRuns_literals {l : List Byte} (hl : l ≠ []) :
    expandRuns (l ++ rest) (.literal l.length) (l.length + n) (l.length + m) = (expandRuns rest .header n m).after l := by
  induction l with
  | nil => exact absurd rfl hl
  | cons b l ih =>
    cases l with
    | nil =>
      rw [List.singleton_append, expandRuns, if_pos (by simp), List.length_singleton, Nat.add_sub_cancel_left,
        Nat.add_sub_cancel_left]
      rfl
    | cons c l =>
      have ih := ih (List.cons_ne_nil c l)
      rw [List.cons_append, expandRuns, if_neg (by simp)]
      have hstored : (b :: c :: l).length + n - 1 = (c :: l).length + n := by simp only [List.length_cons]; omega
      have hplane : (b :: c :: l).length + m - 1 = (c :: l).length + m := by simp only [List.length_cons]; omega
      rw [hstored, hplane, show (b :: c :: l).length - 1 = (c :: l).length from rfl, ih]
      rfl

/-- A literal run of 1 to 128 bytes expands to its bytes (R25). -/
theorem expandRuns_literal_run {l : List Byte} (hmin : 1 ≤ l.length) (hmax : l.length ≤ 128) :
    expandRuns (BitVec.ofNat 8 (l.length - 1) :: l ++ rest) .header (l.length + 1 + n) (l.length + m) =
      (expandRuns rest .header n m).after l := by
  have hbyte : (BitVec.ofNat 8 (l.length - 1)).toNat = l.length - 1 := by
    rw [BitVec.toNat_ofNat]
    omega
  have hl : l ≠ [] := List.length_pos_iff.mp hmin
  rw [List.cons_append, expandRuns, hbyte]
  rw [if_neg (by omega), if_neg (by omega), show (l.length - 1) % 128 + 1 = l.length by omega,
    show l.length + 1 + n - 1 = l.length + n by omega]
  exact expandRuns_literals hl

/-- A repeated run of 3 to 130 bytes expands to its byte, that many times (R25). -/
theorem expandRuns_repeated_run {k : Nat} {b : Byte} (hmin : 3 ≤ k) (hmax : k ≤ 130) :
    expandRuns ([BitVec.ofNat 8 (128 + (k - 3)), b] ++ rest) .header (2 + n) (k + m) =
      (expandRuns rest .header n m).after (List.replicate k b) := by
  have hbyte : (BitVec.ofNat 8 (128 + (k - 3))).toNat = 128 + (k - 3) := by
    rw [BitVec.toNat_ofNat]
    omega
  rw [List.cons_append, expandRuns, hbyte]
  rw [if_pos (by omega), if_neg (by omega), show (128 + (k - 3)) % 128 + 3 = k by omega, List.singleton_append, expandRuns,
    show 2 + n - 1 - 1 = n by omega, show k + m - k = m by omega]
  rfl

end

/-! ## Bursts -/

/-- The expansion of bytes that come in two parts goes on in the second where the first has left it (R25). -/
theorem expandRuns_append {b : List Byte} (a : List Byte) (r : RunPart) (stored plane : Nat)
    (h : (expandRuns a r stored plane).failed = false) :
    expandRuns (a ++ b) r stored plane = (expandRuns b (expandRuns a r stored plane).run (stored - a.length)
      (plane - (expandRuns a r stored plane).out.length)).after (expandRuns a r stored plane).out := by
  induction a generalizing r stored plane with
  | nil => rfl
  | cons x a ih =>
    have hstored : stored - (x :: a).length = stored - 1 - a.length := by
      rw [List.length_cons]
      omega
    rw [hstored, List.cons_append]
    match r with
    | .header =>
      by_cases hrepeated : 128 ≤ x.toNat
      · by_cases hbad : plane < x.toNat % 128 + 3 ∨ stored < 2
        · rw [expandRuns, if_pos hrepeated, if_pos hbad] at h
          cases h
        · have hstep (l : List Byte) : expandRuns (x :: l) .header stored plane =
              expandRuns l (.repeated (x.toNat % 128 + 3)) (stored - 1) plane := by
            rw [expandRuns, if_pos hrepeated, if_neg hbad]
          rw [hstep] at h ⊢
          rw [hstep]
          exact ih _ _ _ h
      · by_cases hbad : plane < x.toNat % 128 + 1 ∨ stored < x.toNat % 128 + 2
        · rw [expandRuns, if_neg hrepeated, if_pos hbad] at h
          cases h
        · have hstep (l : List Byte) : expandRuns (x :: l) .header stored plane =
              expandRuns l (.literal (x.toNat % 128 + 1)) (stored - 1) plane := by
            rw [expandRuns, if_neg hrepeated, if_neg hbad]
          rw [hstep] at h ⊢
          rw [hstep]
          exact ih _ _ _ h
    | .literal left =>
      have hstep (l : List Byte) : expandRuns (x :: l) (.literal left) stored plane =
          (expandRuns l (if left ≤ 1 then .header else .literal (left - 1)) (stored - 1) (plane - 1)).after [x] := by
        rw [expandRuns]
        rfl
      rw [hstep] at h ⊢
      rw [hstep, ih _ _ _ h, Expansion.after_after, Expansion.length_after, Nat.sub_add_eq]
      rfl
    | .repeated n =>
      have hstep (l : List Byte) : expandRuns (x :: l) (.repeated n) stored plane =
          (expandRuns l .header (stored - 1) (plane - n)).after (List.replicate n x) := by
        rw [expandRuns]
        rfl
      rw [hstep] at h ⊢
      rw [hstep, ih _ _ _ h, Expansion.after_after, Expansion.length_after, List.length_replicate, Nat.sub_add_eq]
      rfl

/-- Settles O47: by the runs, and by the bytes of the first burst. -/
theorem packedPlanesExpand : Obligations.PackedPlanesExpand := by
  unfold Obligations.PackedPlanesExpand
  intro run fits
  refine ⟨fun runs hfits => ?_, fun a b r stored plane h => expandRuns_append a r stored plane h⟩
  induction runs with
  | nil => rfl
  | cons x runs ih =>
    have ih := ih fun y hy => hfits y (List.mem_cons_of_mem x hy)
    have hfit := hfits x List.mem_cons_self
    dsimp only at ih ⊢
    rw [List.map_cons, List.flatten_cons, List.map_cons, List.flatten_cons, List.length_append, List.length_append]
    obtain l | ⟨n, b⟩ := x
    · obtain ⟨hmin, hmax⟩ := hfit
      exact (expandRuns_literal_run hmin hmax).trans (congrArg (Expansion.after · l) ih)
    · obtain ⟨hmin, hmax⟩ := hfit
      rw [show (run (.inr (n, b))).2.length = n from List.length_replicate]
      exact (expandRuns_repeated_run hmin hmax).trans (congrArg (Expansion.after · (List.replicate n b)) ih)

end Sys2Proof.Machine

/-! PROOF. LOAD_PLANES, and the jobs that CANCEL_LOAD and a session end take out (R14, R16, R30 to R36). -/

namespace Sys2Proof.Machine

set_option Elab.async false

/-! ## The pairs of a LOAD_PLANES (R30) -/

/-- The pairs of a LOAD_PLANES in the form of its body (R30). -/
def pairBytes (l : List (SlotId × Nat)) : List Byte := (l.map fun x => slotBytes x.1 ++ le2 x.2).flatten

theorem pairBytes_length (l : List (SlotId × Nat)) : (pairBytes l).length = 4 * l.length := by
  induction l with
  | nil => rfl
  | cons x l ih =>
    rw [pairBytes, List.map_cons, List.flatten_cons, List.length_append, ← pairBytes, ih, List.length_cons]
    show 4 + 4 * l.length = _
    omega

theorem pairBytes_append (l k : List (SlotId × Nat)) : pairBytes (l ++ k) = pairBytes l ++ pairBytes k := by
  rw [pairBytes, List.map_append, List.flatten_append]
  rfl

/-- Each pair is read from its place in the body. -/
theorem field2_pairBytes {pre rest : List (SlotId × Nat)} {x : SlotId × Nat} (hx : x.2 < 65536) :
    field2 (pairBytes (pre ++ x :: rest)) (4 * pre.length) = x.1.val
      ∧ field2 (pairBytes (pre ++ x :: rest)) (4 * pre.length + 2) = x.2 := by
  have hcons : pairBytes (x :: rest) = slotBytes x.1 ++ (le2 x.2 ++ pairBytes rest) := List.append_assoc _ _ _
  rw [pairBytes_append, hcons, ← pairBytes_length pre]
  refine ⟨(field2_append_right _ _ 0).trans (field2_slotBytes x.1 _), (field2_append_right _ _ 2).trans ?_⟩
  exact (field2_append_right (slotBytes x.1) _ 0).trans (field2_le2 x.2 hx _)

theorem loadPairs_read {entries : Nat} (hentries : entries ≤ 512) (rest pre : List (SlotId × Nat)) (seen : List SlotId)
    (hseen : ∀ n ∈ seen, n ∈ pre.map Prod.fst) (hnodup : ((pre ++ rest).map Prod.fst).Nodup)
    (hbelow : ∀ x ∈ rest, x.2 < entries) :
    loadPairs (pairBytes (pre ++ rest)) entries seen pre.length rest.length = .ok rest := by
  induction rest generalizing pre seen with
  | nil => rfl
  | cons x rest ih =>
    have hx := hbelow x List.mem_cons_self
    obtain ⟨hslot, hentry⟩ := field2_pairBytes (pre := pre) (rest := rest) (x := x) (by omega)
    have hnot : x.1 ∉ seen := fun hmem => by
      rw [List.map_append, List.map_cons] at hnodup
      exact (List.nodup_append.mp hnodup).2.2 x.1 (hseen x.1 hmem) x.1 List.mem_cons_self rfl
    have hstep := ih (pre ++ [x]) (x.1 :: seen)
      (fun n hn => by
        rw [List.map_append, List.mem_append]
        exact (List.mem_cons.mp hn).elim (fun h => .inr (by simp [h])) fun h => .inl (hseen n h))
      (by rwa [List.append_assoc]) fun y hy => hbelow y (List.mem_cons_of_mem x hy)
    rw [List.append_assoc, List.singleton_append, List.length_append, List.length_singleton] at hstep
    rw [List.length_cons, loadPairs, hslot, slotOf_val]
    dsimp only
    rw [hentry, if_neg (by simp [hnot, hx]), hstep]

/-! ## The load claim (R14) -/

section
variable {s : State} {p : PortId}

theorem Slot.isReady_iff {x : Slot} : x.isReady = true ↔ ∃ c o, x.content = .ready c o := by
  unfold Slot.isReady SlotContent.state
  cases x.content <;> simp

theorem claimFault_of_claimable {x : Slot} (hown : x.owner = some p)
    (h : x.content = .held ∨ (x.isReady = true ∧ x.pins = 0)) : claimFault p x = none := by
  rw [claimFault, if_neg (not_not.mpr hown)]
  obtain hheld | ⟨hready, hpins⟩ := h
  · rw [hheld]
  · obtain ⟨c, o, hcontent⟩ := Slot.isReady_iff.mp hready
    rw [hcontent]
    exact if_neg (by omega)

theorem claimFault_of_not_owner {x : Slot} (h : x.owner ≠ some p) : claimFault p x = some .notOwner := if_pos h

theorem claimFault_in_use {x : Slot} (hown : x.owner = some p)
    (h : (∃ k c, x.content = .filling k c ∨ x.content = .loading k c) ∨ (x.isReady = true ∧ x.pins ≠ 0)) :
    claimFault p x = some .inUse := by
  rw [claimFault, if_neg (not_not.mpr hown)]
  obtain ⟨k, c, hfilling | hloading⟩ | ⟨hready, hpins⟩ := h
  · rw [hfilling]
  · rw [hloading]
  · obtain ⟨c, o, hcontent⟩ := Slot.isReady_iff.mp hready
    rw [hcontent]
    exact if_pos (by omega)

theorem firstClaimFault_none {l : List SlotId} (h : ∀ n ∈ l, claimFault p (s.slot n) = none) (i : Nat) :
    firstClaimFault s p i l = none := by
  induction l generalizing i with
  | nil => rfl
  | cons n l ih =>
    rw [firstClaimFault, h n List.mem_cons_self]
    exact ih (fun m hm => h m (List.mem_cons_of_mem n hm)) (i + 1)

theorem firstClaimFault_found {before after : List SlotId} {n : SlotId} {st : Status}
    (hbefore : ∀ m ∈ before, claimFault p (s.slot m) = none) (h : claimFault p (s.slot n) = some st) (i : Nat) :
    firstClaimFault s p i (before ++ n :: after) = some (i + before.length, st) := by
  induction before generalizing i with
  | nil => rw [List.nil_append, firstClaimFault, h]; rfl
  | cons m before ih =>
    rw [List.cons_append, firstClaimFault, hbefore m List.mem_cons_self]
    dsimp only
    rw [ih (fun k hk => hbefore k (List.mem_cons_of_mem m hk)), List.length_cons, Nat.add_assoc, Nat.add_comm 1]

/-- Claimed slots are LOADING from the start; nothing else changes (R14). -/
theorem foldl_claimOne (l : List SlotId) (s : State) :
    (∀ n, (l.foldl claimOne s).slot n = if n ∈ l then { s.slot n with content := .loading 0 0, mismatches := 0 } else s.slot n)
    ∧ { l.foldl claimOne s with slots := s.slots } = s := by
  induction l generalizing s with
  | nil => exact ⟨fun n => by simp, rfl⟩
  | cons m l ih =>
    obtain ⟨hslots, hframe⟩ := ih (claimOne s m)
    refine ⟨fun n => ?_, (congrArg (fun t : State => { t with slots := s.slots }) hframe :)⟩
    have hclaimed : (claimOne s m).slot n = if n = m then { s.slot m with content := .loading 0 0, mismatches := 0 } else s.slot n :=
      State.slot_setSlot s m n _
    rw [List.foldl_cons, hslots, hclaimed]
    by_cases hn : n = m
    · subst hn
      simp
    · simp [hn]

theorem loadClaim_ok {l : List SlotId} (h : ∀ n ∈ l, claimFault p (s.slot n) = none) :
    loadClaim p l s = .ok (l.foldl claimOne s) := by
  rw [loadClaim, firstClaimFault_none h]

theorem loadClaim_fails {before after : List SlotId} {n : SlotId} {st : Status}
    (hbefore : ∀ m ∈ before, claimFault p (s.slot m) = none) (h : claimFault p (s.slot n) = some st) :
    loadClaim p (before ++ n :: after) s = .error (before.length, st) := by
  rw [loadClaim, firstClaimFault_found hbefore h, Nat.zero_add]

/-! ## LOAD_PLANES (R30, R31) -/

/-- The jobs of a LOAD_PLANES of a port (R31). -/
abbrev jobsOf (p : PortId) (pairs : List (SlotId × Nat)) : List Job := pairs.map fun x => { slot := x.1, entry := x.2, port := p }

section
variable {pairs : List (SlotId × Nat)}

theorem loadPlanes_read (hmin : 1 ≤ pairs.length) (hmax : pairs.length ≤ 8) (hnodup : (pairs.map Prod.fst).Nodup)
    (hlib : s.lib.state = .valid) (hentries : s.lib.entries.length ≤ 512) (hbelow : ∀ x ∈ pairs, x.2 < s.lib.entries.length)
    (hroom : s.lib.jobs.length + pairs.length ≤ 8) :
    (∀ t, loadClaim p (pairs.map Prod.fst) s = .ok t → loadPlanes p (pairBytes pairs) s =
      done (u8 (s.lib.jobs.length + pairs.length)) { t with lib := { t.lib with jobs := t.lib.jobs ++ jobsOf p pairs } })
    ∧ (∀ pos st, loadClaim p (pairs.map Prod.fst) s = .error (pos, st) →
      loadPlanes p (pairBytes pairs) s = refuseWith st (u8 pos) s) := by
  have hcount : (pairBytes pairs).length / 4 = pairs.length := by rw [pairBytes_length]; omega
  have hpairs : loadPairs (pairBytes pairs) s.lib.entries.length [] 0 pairs.length = .ok pairs :=
    loadPairs_read hentries pairs [] [] nofun hnodup hbelow
  have hlength : 1 ≤ pairs.length ∧ pairs.length ≤ 8 ∧ (pairBytes pairs).length % 4 = 0 :=
    ⟨hmin, hmax, by rw [pairBytes_length]; omega⟩
  refine ⟨fun t ht => ?_, fun pos st ht => ?_⟩ <;>
  · rw [loadPlanes, hcount]
    dsimp only
    rw [if_pos hlength, hlib]
    dsimp only
    rw [hpairs]
    dsimp only
    rw [if_neg (show ¬ Config.maxJobs < s.lib.jobs.length + pairs.length from Nat.not_lt.mpr hroom), ht]

end

theorem exec_loadPlanes_done {body a : List Byte} {t : State} (hask : Asked s p .loadPlanes (.atBlock .loader) body)
    (h : loadPlanes p body s = done a t) :
    exec (.loadPlanes p) s = .next (startHead (t.reply p { status := .done, body := a })) := by
  rw [exec_loadPlanes_asked hask, h]
  rfl

theorem exec_loadPlanes_refused {body a : List Byte} {st : Status} (hask : Asked s p .loadPlanes (.atBlock .loader) body)
    (h : loadPlanes p body s = refuseWith st a s) (hst : st ≠ .done) :
    exec (.loadPlanes p) s = .next (s.reply p { status := st, body := a }) := by
  rw [exec_loadPlanes_asked hask, h]
  exact congrArg Host.Outcome.next (if_neg hst)

theorem startHead_running (h : s.lib.run.isSome = true) : startHead s = s := if_pos h

/-- A new head with a usable entry reads its first burst (R32, R33). -/
theorem startHead_usable {j : Job} {rest : List Job} {e : DirEntry} (hrun : s.lib.run = none) (hjobs : s.lib.jobs = j :: rest)
    (hentry : s.lib.entries[j.entry]? = some e) (husable : e.usable = true) : startHead s =
      { s with lib := { s.lib with
        run := some { entry := e, taken := 0, run := .header }
        burst := some { offset := e.offset, length := min 256 e.length, timer := some 1000 } } } := by
  rw [startHead, if_neg (by rw [hrun]; exact nofun), hjobs, List.length_cons, startJobs, hjobs]
  dsimp only
  rw [hentry]
  exact if_pos husable

end

/-- Settles O48: by the load claim, whole or at the first slot that fails. -/
theorem loadPlanesQueuesJobs : Obligations.LoadPlanesQueuesJobs := by
  intro s p pairs hmin hmax hnodup hlib hentries hbelow hroom hask claimable jobs answer
  obtain ⟨hdone, hrefused⟩ := loadPlanes_read (p := p) hmin hmax hnodup hlib hentries hbelow hroom
  have hfails {before after : List (SlotId × Nat)} {y : SlotId × Nat} {st : Status} (hpairs : pairs = before ++ y :: after)
      (hbefore : ∀ x ∈ before, claimable x.1) (hfault : claimFault p (s.slot y.1) = some st) :
      loadClaim p (pairs.map Prod.fst) s = .error (before.length, st) := by
    rw [hpairs, List.map_append, List.map_cons, ← List.length_map (as := before) (f := Prod.fst)]
    refine loadClaim_fails (fun m hm => ?_) hfault
    obtain ⟨x, hx, rfl⟩ := List.mem_map.mp hm
    exact claimFault_of_claimable (hbefore x hx).1 (hbefore x hx).2
  refine ⟨fun hall hrun => ?_, fun n j e hpairs hclaim hrun hjobs hentry husable => ?_, fun before y after hpairs hbefore =>
    ⟨fun hown => ?_, fun hown huse => ?_⟩⟩
  · have hclaim := loadClaim_ok (s := s) (p := p) (l := pairs.map Prod.fst) (by
      rintro n hn
      obtain ⟨x, hx, rfl⟩ := List.mem_map.mp hn
      exact claimFault_of_claimable (hall x hx).1 (hall x hx).2)
    obtain ⟨hslots, hframe⟩ := foldl_claimOne (pairs.map Prod.fst) s
    generalize (pairs.map Prod.fst).foldl claimOne s = u at hclaim hslots hframe
    have hexec := exec_loadPlanes_done hask (hdone u hclaim)
    have hu : u.lib = s.lib := (congrArg State.lib hframe :)
    rw [startHead_running (by rw [State.reply_lib, hu]; exact hrun)] at hexec
    refine ⟨_, hexec, hslots, ?_⟩
    rw [hu]
    exact (congrArg (fun t : State => ({ t with lib := { s.lib with jobs := jobs } } : State).reply p answer) hframe :)
  · subst hpairs
    have hclaimed : loadClaim p [n] s = .ok (claimOne s n) :=
      loadClaim_ok (l := [n]) (by simpa using claimFault_of_claimable hclaim.1 hclaim.2)
    rw [exec_loadPlanes_done hask (hdone _ hclaimed)]
    refine congrArg Host.Outcome.next ((startHead_usable (j := { slot := n, entry := j, port := p }) (rest := []) ?_ ?_ ?_
      husable).trans ?_)
    · exact hrun
    · show s.lib.jobs ++ _ = _
      rw [hjobs]
      rfl
    · exact hentry
    · rfl
  · refine exec_loadPlanes_refused hask ((hrefused before.length .notOwner ?_)) nofun
    exact hfails hpairs hbefore (claimFault_of_not_owner hown)
  · refine exec_loadPlanes_refused hask ((hrefused before.length .inUse ?_)) nofun
    exact hfails hpairs hbefore (claimFault_in_use hown huse)

/-! ## Jobs that leave the queue (R35, R36) -/

section
variable {s : State} {p : PortId} {n : SlotId}

theorem loadEnding_loading {k : Nat} {crc : Crc32} (h : (s.slot n).content = .loading k crc) (e : LoadEnding) :
    loadEnding n e s = s.setSlot n ((s.slot n).endLoad crc e) := by
  rw [loadEnding, h]

theorem Slot.endLoad_cancelled {x : Slot} (hown : x.owner = some p) (crc : Crc32) :
    x.endLoad crc .cancelled = { x with content := .held, lastResult := .cancelled, mismatches := 0 } :=
  if_neg (by rw [hown]; exact nofun)

theorem cancelLoad_found {before after : List Job} {j : Job} (hjobs : s.lib.jobs = before ++ j :: after) (hslot : j.slot = n)
    (hport : j.port = p) (hbefore : ∀ i ∈ before, i.slot ≠ n) :
    cancelLoad p (slotBytes n) s = done [] (dropJobs (fun x => x == j) .cancelled s) := by
  have hfind : s.lib.jobs.find? (fun i => i.slot == n) = some j :=
    List.find?_eq_some_iff_append.mpr ⟨beq_iff_eq.mpr hslot, before, after, hjobs, fun i hi => by simp [hbefore i hi]⟩
  rw [cancelLoad, ofLength_of_length_eq (show (slotBytes n).length = 2 from rfl), field2_slotBytes_nil, slotOf_val]
  dsimp only
  rw [hfind]
  exact if_pos hport

theorem exec_cancelLoad_done {body : List Byte} {t : State} (hask : Asked s p .cancelLoad (.atBlock .loader) body)
    (h : cancelLoad p body s = done [] t) :
    exec (.cancelLoad p) s = .next (startHead (t.reply p { status := .done, body := [] })) := by
  rw [exec_cancelLoad_asked hask, h]
  rfl

/-- The job named is the only one that goes when the others are of other slots (R35). -/
theorem filter_job {before after : List Job} {j : Job} (hothers : ∀ i ∈ before ++ after, i.slot ≠ j.slot) :
    (before ++ j :: after).filter (fun x => x == j) = [j]
      ∧ (before ++ j :: after).filter (fun x => !(x == j)) = before ++ after := by
  have hne : ∀ i ∈ before ++ after, (i == j) = false := fun i hi => beq_eq_false_iff_ne.mpr fun h => hothers i hi (h ▸ rfl)
  have hgone : (before ++ after).filter (fun x => x == j) = [] :=
    List.filter_eq_nil_iff.mpr fun i hi => by simp [hne i hi]
  have hkept : (before ++ after).filter (fun x => !(x == j)) = before ++ after :=
    List.filter_eq_self.mpr fun i hi => by simp [hne i hi]
  rw [List.filter_append] at hgone hkept
  obtain ⟨hbefore, hafter⟩ := List.append_eq_nil_iff.mp hgone
  refine ⟨?_, ?_⟩
  · rw [List.filter_append, List.filter_cons_of_pos (p := fun x => x == j) (beq_self_eq_true j), hbefore, hafter, List.nil_append]
  · rw [List.filter_append, List.filter_cons_of_neg (p := fun x => !(x == j)) (by simp), hkept]

theorem Loader.drop_cons {x : Loader} {j : Job} {rest : List Job} {gone : Job → Bool} (h : x.jobs = j :: rest) : x.drop gone =
    { x with
      jobs := x.jobs.filter fun j => !gone j
      run := if gone j then none else x.run
      burst := if gone j then none else x.burst } := by
  rw [Loader.drop, h]

end

/-- Settles O49: by whether the head of the queue is among the jobs that go. -/
theorem loadsAreCancelled : Obligations.LoadsAreCancelled := by
  intro s p
  refine ⟨?_, ?_⟩
  · intro n k e crc before after hask hown hcontent hjobs hothers ended answer
    have hexec := exec_cancelLoad_done hask (cancelLoad_found hjobs rfl rfl fun i hi => hothers i (List.mem_append_left _ hi))
    obtain ⟨hgone, hkept⟩ := filter_job (j := { slot := n, entry := e, port := p }) hothers
    have hstored : dropStored (fun x => x == { slot := n, entry := e, port := p }) .cancelled s = ended := by
      rw [dropStored, hjobs, hgone, List.foldl_cons, List.foldl_nil, loadEnding_loading hcontent, Slot.endLoad_cancelled hown]
    rw [dropJobs_eq, hstored] at hexec
    refine ⟨fun hnonempty hrun => ?_, fun hempty => ?_⟩
    · obtain ⟨i, rest, rfl⟩ := List.exists_cons_of_ne_nil hnonempty
      have hstays : ¬ (i == { slot := n, entry := e, port := p }) = true := fun h =>
        hothers i List.mem_cons_self (congrArg Job.slot (beq_iff_eq.mp h))
      have hdrop : s.lib.drop (fun x => x == { slot := n, entry := e, port := p }) =
          { s.lib with jobs := i :: rest ++ after } := by
        rw [Loader.drop_cons hjobs, if_neg hstays, if_neg hstays, hjobs, hkept]
      rw [hexec, hdrop]
      exact congrArg Host.Outcome.next (startHead_running hrun)
    · subst hempty
      have hdrop : s.lib.drop (fun x => x == { slot := n, entry := e, port := p }) =
          { s.lib with jobs := after, run := none, burst := none } := by
        rw [Loader.drop_cons hjobs, if_pos (beq_self_eq_true _), if_pos (beq_self_eq_true _), hjobs, hkept]
        rfl
      rw [hexec, hdrop]
  · intro x before after hannounced hblock hport hbefore headGone u kept
    have hexec : exec (.sessionEndLoader p) s = .next (startHead
        (dropJobs (fun j => j.port == p) .sessionEnded { s with announcements := before ++ after })) :=
      congrArg Host.Outcome.next (takeAnnouncement_found hannounced hblock hport hbefore _)
    have hstored : dropStored (fun j => j.port == p) .sessionEnded { s with announcements := before ++ after } = u := rfl
    have hkept : s.lib.jobs.filter (fun j => !(j.port == p)) = kept := List.filter_congr fun j _ => (decide_not ..).symm
    rw [dropJobs_eq, hstored] at hexec
    refine ⟨fun hgone => ?_, fun hstays hrun => ?_⟩
    · obtain ⟨j, hhead, hj⟩ := hgone
      obtain ⟨rest, hjobs⟩ : ∃ rest, s.lib.jobs = j :: rest := List.head?_eq_some_iff.mp hhead
      have hdrop : s.lib.drop (fun j => j.port == p) = { s.lib with jobs := kept, run := none, burst := none } := by
        rw [Loader.drop_cons hjobs, if_pos (beq_iff_eq.mpr hj), if_pos (beq_iff_eq.mpr hj), hkept]
      rw [hexec, hdrop]
    · have hdrop : s.lib.drop (fun j => j.port == p) = { s.lib with jobs := kept } := by
        rw [← hkept, Loader.drop]
        cases hjobs : s.lib.jobs with
        | nil => rfl
        | cons j rest =>
          have hj : ¬ (j.port == p) = true := fun h => hstays ⟨j, by rw [hjobs]; rfl, beq_iff_eq.mp h⟩
          dsimp only
          rw [if_neg hj, if_neg hj]
      rw [hexec, hdrop]
      exact congrArg Host.Outcome.next (startHead_running hrun)

end Sys2Proof.Machine

/-! PROOF. Bursts of the library flash: the scan, the running job, and the flash that does not answer (R15, R16, R23, R24, R33,
R34). -/

namespace Sys2Proof.Machine

set_option Elab.async false

/-! ## A burst and its bytes (R23) -/

section
variable {s : State} {b : Burst} {data : List Byte}

theorem Burst.rows_awaiting (h : b.timer ≠ none) {before : List Byte} (hbefore : ∀ x ∈ before, x ≠ 0xFE) :
    b.rows before = [] ∧ b.rows (before ++ 0xFE :: data) = .startToken :: b.dataRow data := by
  have hsome : b.timer.isSome = true := Option.isSome_iff_ne_none.mpr h
  have hnone : afterToken before = none := by
    have happend := afterToken_append hbefore []
    rwa [List.append_nil] at happend
  refine ⟨(if_pos hsome).trans ?_, (if_pos hsome).trans ?_⟩
  · rw [hnone]
  · rw [afterToken_append hbefore, afterToken_token]

theorem Burst.rows_answered (h : b.timer = none) : b.rows data = b.dataRow data :=
  if_neg (by rw [h]; exact nofun)

/-- A burst that has been answered takes its bytes, all at once (R23). -/
theorem exec_flashBurstDone_header {table : List Byte} (hburst : s.lib.burst = some b) (htimer : b.timer = none)
    (hlength : data.length = b.length) (hscan : s.lib.scan = some { header := none, table := table }) :
    exec (.flashBurstDone data) s = .next (scanHeader data { s with lib := { s.lib with burst := none } }) := by
  show execFlashBurstDone data s = _
  rw [execFlashBurstDone, hburst]
  dsimp only
  rw [if_pos ⟨by rw [htimer]; rfl, hlength⟩, hscan]

theorem exec_flashBurstDone_table {count : Nat} {crc : Crc32} {table : List Byte} (hburst : s.lib.burst = some b)
    (htimer : b.timer = none) (hlength : data.length = b.length)
    (hscan : s.lib.scan = some { header := some (count, crc), table := table }) :
    exec (.flashBurstDone data) s = .next (scanTable count crc (table ++ data) { s with lib := { s.lib with burst := none } }) := by
  show execFlashBurstDone data s = _
  rw [execFlashBurstDone, hburst]
  dsimp only
  rw [if_pos ⟨by rw [htimer]; rfl, hlength⟩, hscan]

theorem exec_flashBurstDone_job {j : Job} {js : List Job} {r : JobRun} (hburst : s.lib.burst = some b) (htimer : b.timer = none)
    (hlength : data.length = b.length) (hscan : s.lib.scan = none) (hjobs : s.lib.jobs = j :: js) (hrun : s.lib.run = some r) :
    exec (.flashBurstDone data) s = .next (jobBytes j r data { s with lib := { s.lib with burst := none } }) := by
  show execFlashBurstDone data s = _
  rw [execFlashBurstDone, hburst]
  dsimp only
  rw [if_pos ⟨by rw [htimer]; rfl, hlength⟩, hscan, hjobs, hrun]

/-- A running job whose burst is not answered ends with a flash error (R23). -/
theorem exec_flashAnswerTimeout_job {j : Job} {js : List Job} {d : Nat} (hburst : s.lib.burst = some b)
    (htimer : b.timer = some d) (hscan : s.lib.scan = none) (hjobs : s.lib.jobs = j :: js) (hrun : s.lib.run.isSome = true) :
    exec .flashAnswerTimeout s =
      .next (finishJob j .flashError { s.elapse d with lib := { (s.elapse d).lib with burst := none } }) := by
  have hbind : s.lib.burst.bind Burst.timer = some d := by rw [hburst]; exact htimer
  show execFlashAnswerTimeout s = _
  rw [execFlashAnswerTimeout, hbind, expire_some]
  refine congrArg Host.Outcome.next ?_
  split
  next hsome => exact absurd (hsome.symm.trans hscan) nofun
  next i is _ hcons =>
    obtain rfl : i = j := (List.cons.inj (hcons.symm.trans hjobs)).1
    exact if_pos hrun
  next hnil => exact absurd (hnil.symm.trans hjobs) nofun

/-! ## The scan (R24) -/

theorem scanTable_more {count : Nat} {crc : Crc32} {table : List Byte} (h : table.length < 16 * count) :
    scanTable count crc table s = { s with lib := { s.lib with
      scan := some { header := some (count, crc), table := table }
      burst := some { offset := 10 + table.length, length := min 256 (16 * count - table.length), timer := some 1000 } } } :=
  if_pos h

theorem scanTable_whole {count : Nat} {crc : Crc32} {table : List Byte} (h : ¬ table.length < 16 * count) :
    scanTable count crc table s =
      if crc32 table = crc then endScan .valid .none (dirEntries table count) crc s else endScan .invalid .badCrc [] 0 s :=
  if_neg h

/-- The entries of a table, one by one (R178). -/
theorem dirEntries_eq (table : List Byte) (count : Nat) : dirEntries table count = List.ofFn fun i : Fin count =>
    { offset := field4 table (16 * i.val), length := field4 table (16 * i.val + 4), crc := crcAt table (16 * i.val + 8)
      form := byteAt table (16 * i.val + 12)
      label := [byteAt table (16 * i.val + 13), byteAt table (16 * i.val + 14), byteAt table (16 * i.val + 15)] } := by
  rw [dirEntries, ← List.map_coe_finRange_eq_range, List.map_map, List.ofFn_eq_map]
  rfl

/-! ## The running job (R15, R16, R33, R34) -/

variable {j : Job} {k : Nat} {crc : Crc32}

theorem loadWrite_loading {n : SlotId} {bytes : List Byte} (h : (s.slot n).content = .loading k crc) : loadWrite n bytes s =
    { s.setSlot n { s.slot n with content := .loading (k + bytes.length) (crc32Carry crc bytes) } with
      planeMem := memWrite (planeAddr n k) bytes s.planeMem } := by
  rw [loadWrite, h]

/-- What a load ending makes of the slot of a port (R16). -/
theorem Slot.endLoad_owned {x : Slot} {p : PortId} (hown : x.owner = some p) :
    (∀ c entry, x.endLoad crc (.complete c entry) =
      if crc = c then { x with content := .ready crc (.library entry), lastResult := .none, mismatches := 0 }
      else { x with content := .held, lastResult := .checkFailed, mismatches := 0 })
    ∧ x.endLoad crc .formatError = { x with content := .held, lastResult := .formatError, mismatches := 0 }
    ∧ x.endLoad crc .flashError = { x with content := .held, lastResult := .flashError, mismatches := 0 } := by
  have hnot : ¬ x.owner = none := by rw [hown]; exact nofun
  exact ⟨fun _ _ => if_neg hnot, if_neg hnot, if_neg hnot⟩

/-- The last job of the queue ends: its slot takes the ending, and LOAD_DONE goes to its port (R34). -/
theorem finishJob_last {e : LoadEnding} {z : Slot} (hjobs : s.lib.jobs = [j])
    (hcontent : (s.slot j.slot).content = .loading k crc) (hz : (s.slot j.slot).endLoad crc e = z)
    (hstate : z.content.state ≠ .free) : finishJob j e s =
      ({ s.setSlot j.slot z with lib := { s.lib with jobs := [], run := none, burst := none } } : State).notify j.port
        (.loadDone j.slot (loadResult e z.content.state) z.content.state k) := by
  have hslot : (s.setSlot j.slot z).slot j.slot = z := by rw [State.slot_setSlot, if_pos rfl]
  have hend : endJob j e s =
      ({ s.setSlot j.slot z with lib := { s.lib with jobs := [], run := none, burst := none } } : State).notify j.port
        (.loadDone j.slot (loadResult e z.content.state) z.content.state k) := by
    rw [endJob, loadEnding_loading hcontent, hcontent, hz]
    refine (if_neg ?_).trans ?_
    · show ¬ ((s.setSlot j.slot z).slot j.slot).content.state = .free
      rw [hslot]
      exact hstate
    · show State.notify { s.setSlot j.slot z with
          lib := { s.lib with jobs := s.lib.jobs.tail, run := none, burst := none } } j.port
        (.loadDone j.slot (loadResult e ((s.setSlot j.slot z).slot j.slot).content.state)
          ((s.setSlot j.slot z).slot j.slot).content.state k) = _
      rw [hslot, hjobs]
      rfl
  rw [finishJob, hend]
  rfl

/-- The bytes that a burst brings to the slot of the running job, and what comes of them (R33). -/
theorem jobBytes_eq {r : JobRun} {x : Expansion} (hcontent : (s.slot j.slot).content = .loading k crc)
    (hx : x = if r.entry.form = 0 then { out := data, run := .header, failed := false }
      else expandRuns data r.run (r.entry.length - r.taken) (65536 - k)) :
    jobBytes j r data s =
      if x.failed then finishJob j .formatError (loadWrite j.slot x.out s)
      else if r.taken + data.length < r.entry.length then
        startBurst (r.entry.offset + (r.taken + data.length)) (min 256 (r.entry.length - (r.taken + data.length)))
          { loadWrite j.slot x.out s with lib := { (loadWrite j.slot x.out s).lib with
            run := some { r with taken := r.taken + data.length, run := x.run } } }
      else if x.out.length = 65536 - k then finishJob j (.complete r.entry.crc j.entry) (loadWrite j.slot x.out s)
      else finishJob j .formatError (loadWrite j.slot x.out s) := by
  rw [jobBytes, hcontent, hx]
  rfl

/-- What a load write leaves: the slot named and the bytes of its plane, and nothing else (R15). -/
theorem loadWrite_written {n : SlotId} {bytes : List Byte} (h : (s.slot n).content = .loading k crc) :
    (loadWrite n bytes s).slot n = { s.slot n with content := .loading (k + bytes.length) (crc32Carry crc bytes) }
    ∧ (∀ m, m ≠ n → (loadWrite n bytes s).slot m = s.slot m)
    ∧ (∀ i (hi : i < bytes.length), memRead (loadWrite n bytes s).planeMem (planeAddr n (k + i)) = bytes[i])
    ∧ (∀ a, a < planeAddr n k ∨ planeAddr n (k + bytes.length) ≤ a →
        memRead (loadWrite n bytes s).planeMem a = memRead s.planeMem a)
    ∧ { loadWrite n bytes s with slots := s.slots, planeMem := s.planeMem } = s := by
  rw [loadWrite_loading h]
  refine ⟨?_, fun m hm => ?_, fun i hi => ?_, fun a ha => ?_, rfl⟩
  · exact (State.slot_setSlot s n n _).trans (if_pos rfl)
  · exact (State.slot_setSlot s n m _).trans (if_neg hm)
  · rw [planeAddr_add]
    exact memRead_memWrite _ bytes _ i hi
  · rw [planeAddr_add] at ha
    exact memRead_memWrite_of_outside _ bytes _ a ha

end

/-- Settles O50: the start token, the scan's bursts, the job's bursts, and the flash that does not answer. -/
theorem burstsBringTheirBytes : Obligations.BurstsBringTheirBytes := by
  intro s b hburst taken scanned expanded written
  refine ⟨?_, fun before data hbefore => ?_, rfl, ?_, ?_, ?_, ?_, fun d htimer => ⟨fun sc hscan => ?_, ?_⟩⟩
  · show execStartToken s = _
    rw [execStartToken, hburst]
  · exact ⟨fun htimer => b.rows_awaiting htimer hbefore, fun htimer => b.rows_answered htimer⟩
  · intro header table htimer hlength hheader hscan count
    have htable : scanTable count (crcAt header 6) [] taken =
        if count = 0 then
          if crcAt header 6 = 0 then
            ({ taken with lib := { taken.lib with
              state := .valid, reason := .none, entries := [], dirCrc := 0, scan := none } } : State).notifyControl
              (.libraryScanned .valid .none 0)
          else scanned taken .invalid .badCrc
        else
          { s with lib := { s.lib with
            scan := some { header := some (count, crcAt header 6), table := [] }
            burst := some { offset := 10, length := min 256 (16 * count), timer := some 1000 } } } := by
      by_cases hcount : count = 0
      · rw [if_pos hcount, scanTable_whole (by rw [hcount]; exact Nat.not_lt_zero _), show crc32 [] = 0 from rfl, hcount]
        by_cases hcrc : crcAt header 6 = 0
        · rw [if_pos hcrc, if_pos hcrc.symm, hcrc]
          rfl
        · rw [if_neg hcrc, if_neg (Ne.symm hcrc)]
          rfl
      · rw [if_neg hcount, scanTable_more (by rw [List.length_nil]; omega)]
        rfl
    rw [exec_flashBurstDone_header hburst htimer (hheader.trans hlength.symm) hscan, ← htable]
    rfl
  · intro count crc table data htimer hlength hscan whole
    have hexec := exec_flashBurstDone_table hburst htimer hlength hscan
    refine ⟨fun hmore => ?_, ?_⟩
    · rw [hexec, scanTable_more hmore]
    · intro hwhole entries
      rw [hexec, scanTable_whole (Nat.not_lt.mpr hwhole.ge), dirEntries_eq, endScan, List.length_ofFn]
      rfl
  · intro j js r data k crc htimer hlength hscan hjobs hrun hcontent hmore x hgood
    have hexec := exec_flashBurstDone_job hburst htimer hlength hscan hjobs hrun
    obtain ⟨hslot, hothers, hinside, houtside, hframe⟩ := loadWrite_written (s := taken) (bytes := x.out) hcontent
    have hlib : (loadWrite j.slot x.out taken).lib = taken.lib := loadWrite_lib _ _
    have hbytes := (jobBytes_eq (s := taken) (data := data) (r := r) (x := x) hcontent rfl).trans
      ((if_neg (Bool.eq_false_iff.mp hgood)).trans (if_pos hmore))
    refine ⟨_, hexec.trans (congrArg Host.Outcome.next hbytes), hslot, ⟨hothers, hinside, houtside⟩, ?_⟩
    rw [hlib]
    exact (congrArg (fun t : State => { t with lib := { s.lib with
      run := some { entry := r.entry, taken := r.taken + data.length, run := x.run }
      burst := some
        { offset := r.entry.offset + (r.taken + data.length)
          length := min 256 (r.entry.length - (r.taken + data.length)), timer := some 1000 } } }) hframe :)
  · intro j r data k crc htimer hlength hscan hjobs hrun hown hcontent x hlast whole good
    have hexec := exec_flashBurstDone_job hburst htimer hlength hscan hjobs hrun
    obtain ⟨hslot, hothers, hinside, houtside, hframe⟩ := loadWrite_written (s := taken) (bytes := x.out) hcontent
    have hlib : (loadWrite j.slot x.out taken).lib = taken.lib := loadWrite_lib _ _
    have hbytes := jobBytes_eq (s := taken) (data := data) (r := r) (x := x) hcontent rfl
    clear_value x
    generalize loadWrite j.slot x.out taken = t at hslot hothers hinside houtside hframe hlib hbytes
    have hcontent' : (t.slot j.slot).content = .loading (k + x.out.length) (crc32Carry crc x.out) := by rw [hslot]
    have hown' : (t.slot j.slot).owner = some j.port := by rw [hslot]; exact hown
    obtain ⟨hcomplete, hformat, -⟩ := Slot.endLoad_owned (crc := crc32Carry crc x.out) hown'
    have hheld : (t.slot j.slot).endLoad (crc32Carry crc x.out) .formatError =
        { s.slot j.slot with content := .held, lastResult := .formatError, mismatches := 0 } :=
      hformat.trans (by rw [hslot]; rfl)
    have hfinal (e : LoadEnding) (z : Slot) (hz : (t.slot j.slot).endLoad (crc32Carry crc x.out) e = z)
        (hstate : z.content.state ≠ .free) : (finishJob j e t).slot j.slot = z ∧ written (finishJob j e t) j.slot k x.out
          ∧ { finishJob j e t with slots := s.slots, planeMem := s.planeMem } =
            ({ s with lib := { s.lib with jobs := [], run := none, burst := none } } : State).notify j.port
              (.loadDone j.slot (loadResult e z.content.state) z.content.state (k + x.out.length)) := by
      rw [finishJob_last (by rw [hlib]; exact hjobs) hcontent' hz hstate, hlib]
      refine ⟨(State.slot_setSlot t j.slot j.slot z).trans (if_pos rfl), ⟨fun m hm => ?_, hinside, houtside⟩, ?_⟩
      · exact ((State.slot_setSlot t j.slot m z).trans (if_neg hm)).trans (hothers m hm)
      · exact (congrArg (fun u : State =>
          ({ u with lib := { s.lib with jobs := [], run := none, burst := none } } : State).notify j.port
            (.loadDone j.slot (loadResult e z.content.state) z.content.state (k + x.out.length))) hframe :)
    by_cases hfailed : x.failed = true
    · have hwhole : ¬ whole := fun h => Bool.noConfusion (hfailed.symm.trans h.1)
      refine ⟨_, hexec.trans (congrArg Host.Outcome.next (hbytes.trans (if_pos hfailed))), ?_⟩
      rw [if_neg fun h : good => hwhole h.1, if_neg fun h : good => hwhole h.1, if_neg hwhole, if_neg hwhole,
        if_neg fun h : good => hwhole h.1]
      exact hfinal .formatError _ hheld nofun
    · have hended : ¬ r.entry.length > r.taken + data.length := Nat.not_lt.mpr (hlast.resolve_left hfailed)
      have hbytes := hbytes.trans ((if_neg hfailed).trans (if_neg hended))
      by_cases hfull : x.out.length = 65536 - k
      · have hwhole : whole := ⟨Bool.eq_false_iff.mpr hfailed, hfull⟩
        refine ⟨_, hexec.trans (congrArg Host.Outcome.next (hbytes.trans (if_pos hfull))), ?_⟩
        by_cases hcrc : crc32Carry crc x.out = r.entry.crc
        · have hgood : good := ⟨hwhole, hcrc⟩
          have hready : (t.slot j.slot).endLoad (crc32Carry crc x.out) (.complete r.entry.crc j.entry) =
              { s.slot j.slot with content := .ready r.entry.crc (.library j.entry), lastResult := .none, mismatches := 0 } :=
            ((hcomplete _ _).trans (if_pos hcrc)).trans (by rw [hslot, hcrc]; rfl)
          rw [if_pos hgood, if_pos hgood, if_pos hgood]
          exact hfinal _ _ hready nofun
        · have hbad : ¬ good := fun h => hcrc h.2
          have hfails : (t.slot j.slot).endLoad (crc32Carry crc x.out) (.complete r.entry.crc j.entry) =
              { s.slot j.slot with content := .held, lastResult := .checkFailed, mismatches := 0 } :=
            ((hcomplete _ _).trans (if_neg hcrc)).trans (by rw [hslot]; rfl)
          rw [if_neg hbad, if_neg hbad, if_pos hwhole, if_pos hwhole, if_neg hbad]
          exact hfinal _ _ hfails nofun
      · have hwhole : ¬ whole := fun h => hfull h.2
        refine ⟨_, hexec.trans (congrArg Host.Outcome.next (hbytes.trans (if_neg hfull))), ?_⟩
        rw [if_neg fun h : good => hwhole h.1, if_neg fun h : good => hwhole h.1, if_neg hwhole, if_neg hwhole,
          if_neg fun h : good => hwhole h.1]
        exact hfinal .formatError _ hheld nofun
  · show execFlashAnswerTimeout s = _
    rw [execFlashAnswerTimeout, hburst]
    show Host.Outcome.next (expire b.timer _ s) = _
    rw [htimer, expire_some]
    dsimp only
    rw [show (s.elapse d).lib.scan = some sc from hscan]
    rfl
  · intro j r k crc hscan hjobs hrun hown hcontent
    have hend := (Slot.endLoad_owned (crc := crc) hown).2.2
    rw [exec_flashAnswerTimeout_job hburst htimer hscan hjobs (by rw [hrun]; rfl)]
    exact congrArg Host.Outcome.next (finishJob_last
      (s := { s.elapse d with lib := { (s.elapse d).lib with burst := none } }) hjobs hcontent hend nofun)

end Sys2Proof.Machine

/-! PROOF. The reporting requests (R20, R26, R27, R51, R52, R70, R102, R116, R132, R176). -/

namespace Sys2Proof.Machine

set_option Elab.async false

/-! ## Runs of records -/

/-- A run of numbers that stays below the size of its bank gives one record each. -/
theorem filterMap_run {size first count : Nat} {ofNat : Nat → Option (Fin size)} (hof : ∀ n (h : n < size), ofNat n = some ⟨n, h⟩)
    (h : first + count ≤ size) (f : Fin size → List Byte) :
    ((List.range count).filterMap fun i => (ofNat (first + i)).map f) =
      List.ofFn fun i : Fin count => f ⟨first + i.val, by omega⟩ := by
  have heach : ((fun i => (ofNat (first + i)).map f) ∘ fun i : Fin count => i.val) =
      fun i : Fin count => some (f ⟨first + i.val, by omega⟩) := funext fun i => by
    rw [Function.comp_apply, hof (first + i.val) (by omega)]
    rfl
  rw [← List.map_coe_finRange_eq_range, List.filterMap_map, heach, List.filterMap_eq_map', List.ofFn_eq_map]

section
variable {s : State}

theorem slotRun_eq {first count : Nat} (h : first + count ≤ 448) : slotRun s first count =
    (List.ofFn fun i : Fin count => slotRecord ⟨first + i.val, by omega⟩ (s.slot ⟨first + i.val, by omega⟩)).flatten :=
  congrArg List.flatten (filterMap_run (ofNat := slotOf) (fun _ h => dif_pos h) h fun n => slotRecord n (s.slot n))

theorem sequenceRun_eq {first count : Nat} (h : first + count ≤ 32) : sequenceRun s first count =
    (List.ofFn fun i : Fin count => sequenceRecord ⟨first + i.val, by omega⟩ (s.seq ⟨first + i.val, by omega⟩)).flatten :=
  congrArg List.flatten (filterMap_run (ofNat := seqOf) (fun _ h => dif_pos h) h fun n => sequenceRecord n (s.seq n))

/-! ## Each request -/

theorem slotStatus_run {first count : Nat} (h : first + count ≤ 448) (hmin : 1 ≤ count) (hmax : count ≤ 64) :
    slotStatus (le2 first ++ [BitVec.ofNat 8 count]) s = done (slotRun s first count) s := by
  have hfirst : field2 (le2 first ++ [BitVec.ofNat 8 count]) 0 = first := field2_le2 first (by omega) _
  have hcount : field1 (le2 first ++ [BitVec.ofNat 8 count]) 2 = count := Nat.mod_eq_of_lt (show count < 2 ^ 8 by omega)
  rw [slotStatus, ofLength_of_length_eq (show (le2 first ++ [BitVec.ofNat 8 count]).length = 3 from rfl)]
  dsimp only
  rw [hfirst, hcount, if_pos ⟨hmin, hmax, h⟩]

theorem sequenceStatus_run {first count : Nat} (h : first + count ≤ 32) (hmin : 1 ≤ count) :
    sequenceStatus [BitVec.ofNat 8 first, BitVec.ofNat 8 count] s = done (le2 s.poolFree ++ sequenceRun s first count) s := by
  have hfirst : field1 [BitVec.ofNat 8 first, BitVec.ofNat 8 count] 0 = first := Nat.mod_eq_of_lt (show first < 2 ^ 8 by omega)
  have hcount : field1 [BitVec.ofNat 8 first, BitVec.ofNat 8 count] 1 = count := Nat.mod_eq_of_lt (show count < 2 ^ 8 by omega)
  rw [sequenceStatus, ofLength_of_length_eq (show [BitVec.ofNat 8 first, BitVec.ofNat 8 count].length = 2 from rfl)]
  dsimp only
  rw [hfirst, hcount, if_pos ⟨hmin, by omega, h⟩]

theorem libraryStatus_eq : libraryStatus [] s =
    (s, { status := if s.lib.state = .valid then .done else .libraryUnavailable
          body := [BitVec.ofNat 8 s.lib.state.code, BitVec.ofNat 8 s.lib.reason.code]
            ++ (if s.lib.state = .valid then le2 s.lib.entries.length ++ crcBytes s.lib.dirCrc else le2 0 ++ le4 0)
            ++ [BitVec.ofNat 8 (if s.lib.state = .valid then s.lib.jobs.length else 0)] }) := by
  rw [libraryStatus, ofLength_of_length_eq (show ([] : List Byte).length = 0 from rfl)]
  by_cases hlib : s.lib.state = .valid
  · rw [if_pos hlib, if_pos hlib, if_pos hlib, if_pos hlib]
    rfl
  · rw [if_neg hlib, if_neg hlib, if_neg hlib, if_neg hlib]
    rfl

/-- READ_STEPS of a sequence, with its checks in turn (R52). -/
theorem readSteps_read {n : SeqId} {first count : Nat} (hfirst : first < 256) (hcount : count < 256) :
    readSteps [BitVec.ofNat 8 n.val, BitVec.ofNat 8 first, BitVec.ofNat 8 count] s =
      if (s.seq n).state = .empty then refuse .wrongState s
      else if 1 ≤ count ∧ count ≤ 64 ∧ first + count ≤ (s.seq n).steps.length then
        done ((((s.seq n).steps.drop first).take count).map stepRecord).flatten s
      else refuseWith .badArgument (u8 (s.seq n).steps.length) s := by
  have hn : field1 [BitVec.ofNat 8 n.val, BitVec.ofNat 8 first, BitVec.ofNat 8 count] 0 = n.val :=
    Nat.mod_eq_of_lt (show n.val < 2 ^ 8 by have := n.isLt; omega)
  have hfirst : field1 [BitVec.ofNat 8 n.val, BitVec.ofNat 8 first, BitVec.ofNat 8 count] 1 = first := Nat.mod_eq_of_lt hfirst
  have hcount : field1 [BitVec.ofNat 8 n.val, BitVec.ofNat 8 first, BitVec.ofNat 8 count] 2 = count := Nat.mod_eq_of_lt hcount
  rw [readSteps, ofLength_of_length_eq (show [_, _, _].length = 3 from rfl), hn, seqOf_val]
  dsimp only
  rw [hfirst, hcount]

/-- LIBRARY_ENTRY of a number, with a valid image (R27). -/
theorem libraryEntry_read {n : Nat} (hn : n < 65536) (hlib : s.lib.state = .valid) : libraryEntry (le2 n) s =
    (s.lib.entries[n]?).elim (refuse .badArgument s) fun e =>
      done (le2 n ++ le4 e.offset ++ le4 e.length ++ crcBytes e.crc ++ [e.form] ++ e.label) s := by
  rw [libraryEntry, ofLength_of_length_eq (show (le2 n).length = 2 from rfl), if_neg (not_not.mpr hlib), field2_le2_nil hn]
  cases s.lib.entries[n]? <;> rfl

theorem waitingForLink_eq (x : Player) : x.waitingForLink = decide (x.out = .idle ∧ x.linkUp = false) := by
  rw [Bool.eq_iff_iff]
  simp [Player.waitingForLink]

end

/-- Settles O51: each request by its answer, field by field. -/
theorem reportsAnswerWhatIsHeld : Obligations.ReportsAnswerWhatIsHeld := by
  intro s p bit byte reports
  have hflag : ∀ b : Bool, flag b = [bit b] := flag_bytes
  refine ⟨fun first count h hmin hmax hask => ?_, fun hask => ?_, fun body hask => ⟨fun hlen => ?_, fun hlen hlib => ?_,
    fun n hn hbody hlib => ⟨fun hbeyond => ?_, fun e he => ?_⟩⟩, fun first count h hmin hask => ?_,
    fun body hask => ⟨fun hlen => ?_, fun x y z hbody hx => ?_, fun n first count hfirst hcount hbody =>
      ⟨fun hempty => ?_, fun hstate hbad => ?_, fun hstate hmin hmax hwithin => ?_⟩⟩, fun hask => ?_, fun hask => ?_,
    fun hask => ?_, fun hask => ?_⟩
  · rw [← slotRun_eq h]
    show exec _ s = _
    rw [exec_slotStatus_asked hask, slotStatus_run h hmin hmax]
    rfl
  · show exec _ s = _
    rw [exec_libraryStatus_asked hask, libraryStatus_eq]
  · show exec _ s = _
    rw [exec_libraryEntry_asked hask, libraryEntry, ofLength_of_length_ne hlen]
    rfl
  · show exec _ s = _
    rw [exec_libraryEntry_asked hask, libraryEntry, ofLength_of_length_eq hlen, if_pos hlib]
    rfl
  · subst hbody
    show exec _ s = _
    rw [exec_libraryEntry_asked hask, libraryEntry_read hn hlib, List.getElem?_eq_none hbeyond]
    rfl
  · subst hbody
    show exec _ s = _
    rw [exec_libraryEntry_asked hask, libraryEntry_read hn hlib, he, Option.elim_some, List.append_assoc _ [e.form]]
    rfl
  · rw [← sequenceRun_eq h]
    show exec _ s = _
    rw [exec_sequenceStatus_asked hask, sequenceStatus_run h hmin]
    rfl
  · show exec _ s = _
    rw [exec_readSteps_asked hask, readSteps, ofLength_of_length_ne hlen]
    rfl
  · subst hbody
    have hnone : seqOf (field1 [x, y, z] 0) = none := dif_neg (Nat.not_lt.mpr hx)
    show exec _ s = _
    rw [exec_readSteps_asked hask, readSteps, ofLength_of_length_eq (show [x, y, z].length = 3 from rfl), hnone]
    rfl
  · subst hbody
    show exec _ s = _
    rw [exec_readSteps_asked hask, readSteps_read hfirst hcount, if_pos hempty]
    rfl
  · subst hbody
    show exec _ s = _
    rw [exec_readSteps_asked hask, readSteps_read hfirst hcount, if_neg hstate, if_neg (by omega)]
    rfl
  · subst hbody
    show exec _ s = _
    rw [exec_readSteps_asked hask, readSteps_read hfirst hcount, if_neg hstate, if_pos ⟨hmin, hmax, hwithin⟩]
    rfl
  · exact exec_queueStatus_asked hask
  · have hdesignated : opt 1 seqByte s.player.designated = (match s.player.designated with | some n => [byte n.val] | none => [0xFF]) := by
      cases s.player.designated <;> rfl
    have hcontext : opt 12 (fun q : Nat × Context => contextRecord q.2) s.player.out.context? =
        (match s.player.out.contexts with | c :: _ => contextRecord c | [] => List.replicate 12 0xFF) := by
      cases s.player.out <;> rfl
    have hdirect : directField s.player.out =
        (match s.player.out.directParty with | some (q, l, _) => [byte q.val, byte l] | none => [0xFF, 0xFF]) := by
      cases s.player.out <;> rfl
    show exec _ s = _
    rw [exec_playerStatus_asked hask, playerStatus, ofLength_of_length_eq (show ([] : List Byte).length = 0 from rfl)]
    refine congrArg (fun body => Host.Outcome.next (s.reply p { status := .done, body := body })) ?_
    rw [waitingForLink_eq, hflag, hdesignated, hcontext, hdirect, List.append_assoc _ (u8 s.player.stack.length)] <;> rfl
  · have hsource : opt 1 (fun w => u8 (Wait.source w).code) s.trig.wait =
        [match s.trig.wait with | some w => byte w.source.code | none => 0xFF] := by
      cases s.trig.wait <;> rfl
    have hleft : s.trig.waitLeft = (match s.trig.wait with | some { timer := some d, .. } => (d + 999) / 1000 | _ => 0) := by
      unfold Trigger.waitLeft
      obtain _ | ⟨source, holder, timeout, _ | d⟩ := s.trig.wait <;> rfl
    show exec _ s = _
    rw [exec_triggerStatus_asked hask, triggerStatus, ofLength_of_length_eq (show ([] : List Byte).length = 0 from rfl)]
    refine congrArg (fun body => Host.Outcome.next (s.reply p { status := .done, body := body })) ?_
    rw [hsource, hleft, configBytes_eq]
    simp only [hflag, List.append_assoc, List.cons_append, List.nil_append] <;> rfl
  · have hready : s.link.drvRdy = decide (s.link.state ≠ .down) := by
      rw [Bool.eq_iff_iff]
      simp [Link.drvRdy]
    have hidentity : opt 9 identityBytes s.link.identity =
        (match s.link.identity with | some i => identityBytes i | none => List.replicate 9 0xFF) := by
      cases s.link.identity <;> rfl
    have hrecord (x : Light) : lightRecord x = bit x.on :: le4 (x.onTime / 100) ++ le2 x.limit ++ [bit x.trip] := by
      rw [lightRecord, hflag, hflag]
      rfl
    have hlights (f : ChannelId → List Byte) : ((List.finRange 4).map f).flatten = f 0 ++ (f 1 ++ (f 2 ++ f 3)) := by
      show f 0 ++ (f 1 ++ (f 2 ++ (f 3 ++ []))) = _
      rw [List.append_nil]
    show exec _ s = _
    rw [exec_linkStatus_asked hask, linkStatus, ofLength_of_length_eq (show ([] : List Byte).length = 0 from rfl)]
    refine congrArg (fun body => Host.Outcome.next (s.reply p { status := .done, body := body })) ?_
    rw [hready, hidentity, hlights, hrecord, hrecord, hrecord, hrecord]
    simp only [hflag, List.append_assoc, List.cons_append, List.nil_append] <;> rfl

end Sys2Proof.Machine

/-! PROOF. RESET_PLAYER (R75, R101, R121, R127, R129): the notices each port is handed, what each part of the reset keeps,
and what is left. -/

namespace Sys2Proof.Machine

set_option Elab.async false

/-! ## The notices that a port is handed -/

/-- A port's record once its blocks have handed it these notices. -/
def Port.told (x : Port) (l : List Notice) : Port := { x with inbox := x.inbox ++ l.map Handed.notice }

theorem Port.told_nil (x : Port) : x.told [] = x := by
  rw [Port.told, List.map_nil, List.append_nil]

theorem Port.told_told (x : Port) (l m : List Notice) : (x.told l).told m = x.told (l ++ m) := by
  rw [Port.told, Port.told, Port.told, List.map_append, List.append_assoc]

/-- From s to t each port q has been handed the notices f q, and its record has changed in nothing else. -/
def Tells (s t : State) (f : PortId → List Notice) : Prop := ∀ q, t.port q = (s.port q).told (f q)

section
variable {s t u : State} {f g : PortId → List Notice}

theorem Tells.of_ports (h : t.ports = s.ports) : Tells s t fun _ => [] := fun q => by
  have hport : t.port q = s.port q := congrArg (fun v : Vector Port 4 => v[q]) h
  rw [hport, Port.told_nil]

theorem Tells.trans (hst : Tells s t f) (htu : Tells t u g) : Tells s u fun q => f q ++ g q := fun q => by
  rw [htu q, hst q, Port.told_told]

theorem Tells.then_ports (h : Tells s t f) (hports : u.ports = t.ports) : Tells s u f := fun q => by
  have hport : u.port q = t.port q := congrArg (fun v : Vector Port 4 => v[q]) hports
  rw [hport, h q]

theorem Tells.of_ports_then (hports : t.ports = s.ports) (h : Tells t u f) : Tells s u f := fun q => by
  have hport : t.port q = s.port q := congrArg (fun v : Vector Port 4 => v[q]) hports
  rw [h q, hport]

theorem Tells.cls (h : Tells s t f) (q : PortId) : (t.port q).cls = (s.port q).cls := (congrArg Port.cls (h q) :)

theorem Tells.inbox (h : Tells s t f) (q : PortId) :
    (t.port q).inbox = (s.port q).inbox ++ (f q).map Handed.notice :=
  (congrArg Port.inbox (h q) :)

theorem Tells.congr (h : Tells s t f) (hfg : ∀ q, f q = g q) : Tells s t g := fun q => by
  rw [h q, hfg q]

theorem notify_tells (s : State) (p : PortId) (n : Notice) : Tells s (s.notify p n) fun q => if p = q then [n] else [] := by
  intro q
  by_cases h : p = q
  · subst h
    dsimp only
    rw [State.port_notify, if_pos rfl, if_pos rfl]
    rfl
  · dsimp only
    rw [State.port_notify, if_neg (Ne.symm h), if_neg h, Port.told_nil]

theorem notifyControl_tells (s : State) (n : Notice) :
    Tells s (s.notifyControl n) fun q => if (s.port q).cls = .control then [n] else [] := fun q => by
  rw [State.port_notifyControl]
  dsimp only
  split
  · rfl
  · rw [Port.told_nil]

theorem notifySubmitter_tells (s : State) (p : Option PortId) (n : Notice) :
    Tells s (s.notifySubmitter p n) fun q => if p = some q then [n] else [] := by
  cases p with
  | none => exact .of_ports rfl
  | some p => exact (notify_tells s p n).congr fun q => by simp

theorem foldl_tells {α : Type} {step : State → α → State} {f : α → PortId → List Notice}
    (h : ∀ s x, Tells s (step s x) (f x)) (l : List α) : ∀ s, Tells s (l.foldl step s) fun q => l.flatMap fun x => f x q := by
  induction l with
  | nil => exact fun s => .of_ports rfl
  | cons x l ih => exact fun s => (h s x).trans (ih (step s x))

end

/-! ## The notices of a player reset (R75, R101, R120) -/

/-- The notices of R101 for what holds the output. -/
def holderNotices (s : State) (q : PortId) : List Notice :=
  match s.player.out with
  | .running _ c => if c.port = some q then [.contextAborted c.tag (.ended .playerReset) c.idx c.late] else []
  | .fallback _ _ => if (s.port q).cls = .control then [.fallbackEnded .playerReset] else []
  | .offering _ o => if o.port = q then [.directEnded .playerReset o.level 0 none] else []
  | .direct _ d => if d.port = q then [.directEnded .playerReset d.level d.shows.length none] else []
  | .idle => []
  | .halted => []

/-- The notices of R101 for the suspended contexts. -/
def stackNotices (l : List Context) (q : PortId) : List Notice :=
  l.flatMap fun c => if c.port = some q then [.contextAborted c.tag (.ended .playerReset) c.idx c.late] else []

/-- The notices of R75 for the entries of the queue. -/
def entryNotices (l : List Entry) (q : PortId) : List Notice :=
  l.flatMap fun e => if e.port = q then [.entryRemoved .playerReset e] else []

section
variable {s : State}

theorem abortNotice_running {k : Nat} {c : Context} {reason : EndReason} (hout : s.player.out = .running k c) :
    abortNotice k c reason s =
      (silence k s).notifySubmitter c.port (.contextAborted c.tag (.ended reason) c.idx c.late) := by
  unfold abortNotice
  rw [hout]

theorem abortNotice_fallback {k : Nat} {c : Context} {reason : EndReason} (hout : s.player.out = .fallback k c) :
    abortNotice k c reason s = (silence k s).notifyControl (.fallbackEnded reason) := by
  unfold abortNotice
  rw [hout]

theorem resetHolder_tells (s : State) : Tells s (resetHolder s) (holderNotices s) := by
  unfold resetHolder
  cases hout : s.player.out with
  | running k c =>
    dsimp only
    rw [abortNotice_running hout]
    exact (Tells.of_ports_then (silence_ports k s) (notifySubmitter_tells _ _ _)).congr fun q => by rw [holderNotices, hout]
  | fallback k c =>
    dsimp only
    rw [abortNotice_fallback hout]
    have hcls : ∀ q, ((silence k s).port q).cls = (s.port q).cls := (Tells.of_ports (silence_ports k s)).cls
    exact (Tells.of_ports_then (silence_ports k s) (notifyControl_tells _ _)).congr fun q => by
      rw [holderNotices, hout, hcls]
  | offering k o =>
    dsimp only [endDirectWith]
    rw [hout]
    exact (Tells.of_ports_then (endDirect_ports s) (notify_tells _ _ _)).congr fun q => by rw [holderNotices, hout]
  | direct k d =>
    dsimp only [endDirectWith]
    rw [hout]
    exact (Tells.of_ports_then (endDirect_ports s) (notify_tells _ _ _)).congr fun q => by rw [holderNotices, hout]
  | idle | halted =>
    dsimp only [endDirectWith]
    rw [hout]
    exact (Tells.of_ports (endDirect_ports s)).congr fun q => by rw [holderNotices, hout]

theorem resetTold_tells (s : State) : Tells s (resetTold s) fun q => holderNotices s q ++ stackNotices s.player.stack q := by
  have hstack := foldl_tells (fun t c => notifySubmitter_tells t c.port (.contextAborted c.tag (.ended .playerReset) c.idx c.late))
    s.player.stack (resetHolder s)
  rw [resetTold, resetHolder_stack]
  exact (resetHolder_tells s).trans hstack

theorem tellResets_tells (l : List Entry) (s : State) : Tells s (l.foldl tellReset s) (entryNotices l) :=
  foldl_tells (fun t e => notify_tells t e.port (.entryRemoved .playerReset e)) l s

theorem restartLink_tells (s : State) : Tells s (restartLink s) fun q =>
    if s.link.state = .failed ∧ (s.port q).cls = .control then [.linkChanged .awaitBlanked .failed true] else [] := by
  unfold restartLink
  split
  next hfailed =>
    have htold := notifyControl_tells { s with link := s.link.sendBlank } (.linkChanged .awaitBlanked s.link.state true)
    rw [hfailed] at htold
    refine (htold.of_ports_then (s := s) rfl |>.then_ports ?_).congr fun q => by
      show (if (s.port q).cls = .control then [Notice.linkChanged .awaitBlanked .failed true] else []) = _
      simp only [hfailed, true_and]
    rw [linkComesUp, toPlayer_ports, hfailed]
    rfl
  next hup => exact (Tells.of_ports rfl).congr fun q => (if_neg fun h => hup h.1).symm

/-- The notices a player reset hands a port q, in the order of R101. -/
theorem resetBlocks_tells (entries : List Entry) (s : State) : Tells s (resetBlocks entries s) fun q =>
    entryNotices entries q
      ++ if s.link.state = .failed ∧ (s.port q).cls = .control then [.linkChanged .awaitBlanked .failed true] else [] := by
  have hentries := tellResets_tells entries s
  have hlink : (entries.foldl tellReset s).link = s.link := foldl_keeps (f := tellReset) State.link (fun _ _ => rfl) entries s
  have hrestart := Tells.of_ports_then (s := entries.foldl tellReset s) (resetLights_ports _) (restartLink_tells _)
  refine (hentries.trans hrestart).then_ports ?_ |>.congr fun q => ?_
  · rw [resetBlocks, clearLatches_ports, blankRequest_ports]
  · have hcls : ((resetLights (entries.foldl tellReset s)).port q).cls = (s.port q).cls := hentries.cls q
    have hstate : (resetLights (entries.foldl tellReset s)).link = s.link := hlink
    rw [hcls, hstate]

end

/-! ## What each part of a player reset keeps -/

/-- Between s and t a reset has changed the ports, the slots, the link, the lights, the trigger unit and the player alone, and of
these not the setup that R101 and R129 keep. -/
structure ResetKeeps (s t : State) : Prop where
  rest : { t with
    ports := s.ports, slots := s.slots, link := s.link, fromLink := s.fromLink, lights := s.lights, trig := s.trig
    player := s.player } = s
  holdLevel : t.player.holdLevel = s.player.holdLevel
  designated : t.player.designated = s.player.designated
  linkUp : t.player.linkUp = s.player.linkUp
  cfgA : t.trig.cfgA = s.trig.cfgA
  cfgB : t.trig.cfgB = s.trig.cfgB
  timeout : t.trig.timeout = s.trig.timeout
  limit : ∀ ch, (t.light ch).limit = (s.light ch).limit
  linkState : t.link.state = s.link.state

section
variable {s t : State}

/-- Two states that differ in their ports alone keep the same. -/
theorem ResetKeeps.of_ports_frame {u : State} (h : ResetKeeps s t)
    (hframe : { u with ports := s.ports } = { t with ports := s.ports }) :
    ResetKeeps s u where
  rest := (congrArg (fun v : State => { v with
    ports := s.ports, slots := s.slots, link := s.link, fromLink := s.fromLink, lights := s.lights, trig := s.trig
    player := s.player }) hframe :).trans h.rest
  holdLevel := (congrArg (fun v : State => v.player.holdLevel) hframe :).trans h.holdLevel
  designated := (congrArg (fun v : State => v.player.designated) hframe :).trans h.designated
  linkUp := (congrArg (fun v : State => v.player.linkUp) hframe :).trans h.linkUp
  cfgA := (congrArg (fun v : State => v.trig.cfgA) hframe :).trans h.cfgA
  cfgB := (congrArg (fun v : State => v.trig.cfgB) hframe :).trans h.cfgB
  timeout := (congrArg (fun v : State => v.trig.timeout) hframe :).trans h.timeout
  limit := fun ch => (congrArg (fun v : State => (v.light ch).limit) hframe :).trans (h.limit ch)
  linkState := (congrArg (fun v : State => v.link.state) hframe :).trans h.linkState

theorem silence_keeps (k : Nat) (s : State) : ResetKeeps s (silence k s) := by
  have hplayer := silence_player (s := s) k
  have htrig : (silence k s).trig = { s.trig with wait := none } := (congrArg State.trig (silence_others k s) :)
  exact {
    rest := (congrArg (fun v : State => { v with
        ports := s.ports, slots := s.slots, fromLink := s.fromLink, trig := s.trig, player := s.player })
      (silence_others k s) :)
    holdLevel := (congrArg Player.holdLevel hplayer :)
    designated := (congrArg Player.designated hplayer :)
    linkUp := (congrArg Player.linkUp hplayer :)
    cfgA := (congrArg Trigger.cfgA htrig :)
    cfgB := (congrArg Trigger.cfgB htrig :)
    timeout := (congrArg Trigger.timeout htrig :)
    limit := fun ch => (light_silence (s := s) (k := k) ch).2.1
    linkState := discard_linkState (s := cancelWait (stopTimers s)) (k := k) }

/-- The end of an offer or a holding changes its plane at the link, its lights, its pins and what holds the output (R135). -/
theorem endDirect_others (s : State) :
    { endDirect s with slots := s.slots, link := s.link, lights := s.lights, player := s.player } = s := by
  unfold endDirect
  split
  next k o _ =>
    exact (congrArg (fun v : State => { v with slots := s.slots, lights := s.lights, player := s.player }) (discard_others k s) :)
  next k d _ =>
    have hdark : ∀ u : State, { u with lights := s.lights, link := s.link, player := s.player } = s →
        { (pinRelease (d.shows.map Show.slot) (discard k u)).setOut .idle with
          slots := u.slots, link := s.link, lights := s.lights, player := s.player } = s := fun u hu => by
      have hpins := pinRelease_frame (d.shows.map Show.slot) (discard k u)
      have hdiscard : (discard k u).slots = u.slots := (congrArg State.slots (discard_others k u) :)
      rw [hdiscard] at hpins
      have hlink := discard_others k u
      have hboth := (congrArg (fun v : State => { v with link := u.link }) hpins).trans hlink
      exact (congrArg (fun v : State => { v with lights := s.lights, link := s.link, player := s.player }) hboth).trans hu
    split
    · exact hdark (lightsOff s) rfl
    · exact hdark s rfl
  next => rfl

theorem endDirect_limit (s : State) (ch : ChannelId) : ((endDirect s).light ch).limit = (s.light ch).limit := by
  unfold endDirect
  split
  next k o _ => exact (congrArg (fun v : State => (v.light ch).limit) (discard_others k s) :)
  next k d _ =>
    have hlights : ∀ u : State, (((pinRelease (d.shows.map Show.slot) (discard k u)).setOut .idle).light ch) = u.light ch :=
      fun u => by
        have hlights : ((pinRelease (d.shows.map Show.slot) (discard k u)).setOut .idle).lights = u.lights :=
          (pinRelease_lights _ (discard k u)).trans (congrArg State.lights (discard_others k u) :)
        exact congrArg (fun v : Vector Light 4 => v[ch]) hlights
    dsimp only
    rw [hlights]
    split
    · exact (light_lightsOff s ch).2.1
    · rfl
  next => rfl

theorem endDirect_linkState (s : State) : (endDirect s).link.state = s.link.state := by
  unfold endDirect
  split
  next k o _ => exact discard_linkState
  next k d _ =>
    dsimp only [State.setOut]
    rw [pinRelease_link, discard_linkState]
    split <;> rfl
  next => rfl

theorem endDirect_keeps (s : State) : ResetKeeps s (endDirect s) := by
  have hplayer := endDirect_player (s := s)
  have htrig : (endDirect s).trig = s.trig := (congrArg State.trig (endDirect_others s) :)
  exact {
    rest := (congrArg (fun v : State => { v with ports := s.ports, fromLink := s.fromLink, trig := s.trig })
      (endDirect_others s) :)
    holdLevel := (congrArg Player.holdLevel hplayer :)
    designated := (congrArg Player.designated hplayer :)
    linkUp := (congrArg Player.linkUp hplayer :)
    cfgA := (congrArg Trigger.cfgA htrig :)
    cfgB := (congrArg Trigger.cfgB htrig :)
    timeout := (congrArg Trigger.timeout htrig :)
    limit := endDirect_limit s
    linkState := endDirect_linkState s }

theorem notifySubmitter_frame (p : Option PortId) (n : Notice) (s : State) :
    { s.notifySubmitter p n with ports := s.ports } = s := by
  cases p <;> rfl

theorem notifyDirectEnded_frame (o : Output) (reason : EndReason) (byLevel : Option Nat) (s : State) :
    { notifyDirectEnded o reason byLevel s with ports := s.ports } = s := by
  unfold notifyDirectEnded
  split <;> rfl

/-- Ports apart, a player reset silences the context that holds the output, or ends its offer or holding. -/
theorem resetHolder_cases (s : State) :
    (∃ k, { resetHolder s with ports := s.ports } = silence k s ∧ endDirect s = s)
    ∨ { resetHolder s with ports := s.ports } = endDirect s := by
  unfold resetHolder
  have hports : ∀ k, (silence k s).ports = s.ports := fun k => silence_ports k s
  cases hout : s.player.out with
  | running k c =>
    refine .inl ⟨k, ?_, by rw [endDirect, hout]⟩
    dsimp only
    rw [abortNotice_running hout, ← hports k]
    exact notifySubmitter_frame _ _ _
  | fallback k c =>
    refine .inl ⟨k, ?_, by rw [endDirect, hout]⟩
    dsimp only
    rw [abortNotice_fallback hout, ← hports k]
    rfl
  | idle | halted | offering _ _ | direct _ _ =>
    refine .inr ?_
    dsimp only [endDirectWith]
    rw [← endDirect_ports s]
    exact notifyDirectEnded_frame _ _ _ _

theorem resetHolder_keeps (s : State) : ResetKeeps s (resetHolder s) := by
  obtain ⟨k, hsilence, -⟩ | hend := resetHolder_cases s
  · exact (silence_keeps k s).of_ports_frame (congrArg (fun v : State => { v with ports := s.ports }) hsilence :)
  · exact (endDirect_keeps s).of_ports_frame (congrArg (fun v : State => { v with ports := s.ports }) hend :)

theorem resetHolder_slots (s : State) : (resetHolder s).slots = (endDirect s).slots := by
  obtain ⟨k, hsilence, hend⟩ | hend := resetHolder_cases s
  · rw [hend]
    exact (congrArg State.slots hsilence :).trans (congrArg State.slots (silence_others k s) :)
  · exact (congrArg State.slots hend :)

theorem foldl_frame {α : Type} {step : State → α → State} (h : ∀ s x, { step s x with ports := s.ports } = s) (l : List α) :
    ∀ s, { l.foldl step s with ports := s.ports } = s := by
  induction l with
  | nil => exact fun _ => rfl
  | cons x l ih =>
    exact fun s => (congrArg (fun v : State => { v with ports := s.ports }) (ih (step s x)) :).trans (h s x)

theorem resetTold_frame (s : State) : { resetTold s with ports := (resetHolder s).ports } = resetHolder s :=
  foldl_frame (step := resetSuspended) (fun _ _ => notifySubmitter_frame _ _ _) _ _

theorem resetTold_keeps (s : State) : ResetKeeps s (resetTold s) :=
  (resetHolder_keeps s).of_ports_frame (congrArg (fun v : State => { v with ports := s.ports }) (resetTold_frame s) :)

theorem resetTold_slots (s : State) : (resetTold s).slots = (endDirect s).slots :=
  (congrArg State.slots (resetTold_frame s) :).trans (resetHolder_slots s)

theorem tellResets_frame (l : List Entry) (s : State) : { l.foldl tellReset s with ports := s.ports } = s :=
  foldl_frame (step := tellReset) (fun _ _ => rfl) l s

/-! ## The link, the lights and the latches after a player reset -/

theorem resetBlocks_others (entries : List Entry) (s : State) :
    { resetBlocks entries s with
      ports := s.ports, link := s.link, fromLink := s.fromLink, lights := s.lights, trig := s.trig } = s := by
  have hblank := blankRequest_others (restartLink (resetLights (entries.foldl tellReset s)))
  have hrestart := restartLink_others (s := resetLights (entries.foldl tellReset s))
  calc { resetBlocks entries s with
          ports := s.ports, link := s.link, fromLink := s.fromLink, lights := s.lights, trig := s.trig }
      = { restartLink (resetLights (entries.foldl tellReset s)) with
          ports := s.ports, link := s.link, fromLink := s.fromLink, lights := s.lights, trig := s.trig } :=
        (congrArg (fun v : State => { v with
          ports := s.ports, link := s.link, fromLink := s.fromLink, lights := s.lights, trig := s.trig }) hblank :)
    _ = { resetLights (entries.foldl tellReset s) with
          ports := s.ports, link := s.link, fromLink := s.fromLink, lights := s.lights, trig := s.trig } :=
        (congrArg (fun v : State => { v with
          ports := s.ports, link := s.link, fromLink := s.fromLink, lights := s.lights, trig := s.trig }) hrestart :)
    _ = s := (congrArg (fun v : State => { v with
          link := s.link, fromLink := s.fromLink, lights := s.lights, trig := s.trig }) (tellResets_frame entries s) :)

theorem light_resetLights (s : State) (ch : ChannelId) :
    ((resetLights s).light ch).on = false ∧ ((resetLights s).light ch).trip = false
      ∧ ((resetLights s).light ch).limit = (s.light ch).limit := by
  rw [resetLights, State.light_eachLight]
  cases hon : (s.light ch).on <;> simp [Light.off, hon]

/-- Every channel goes dark, and its trip flag clear (R129). -/
theorem light_resetBlocks (entries : List Entry) (s : State) (ch : ChannelId) :
    ((resetBlocks entries s).light ch).on = false ∧ ((resetBlocks entries s).light ch).trip = false
      ∧ ((resetBlocks entries s).light ch).limit = (s.light ch).limit := by
  have hlights : (resetBlocks entries s).lights = (resetLights (entries.foldl tellReset s)).lights :=
    blankRequest_lights.trans restartLink_lights
  have hlight : (resetBlocks entries s).light ch = (resetLights (entries.foldl tellReset s)).light ch :=
    congrArg (fun v : Vector Light 4 => v[ch]) hlights
  have htold : (entries.foldl tellReset s).light ch = s.light ch :=
    (congrArg (fun v : State => v.light ch) (tellResets_frame entries s) :)
  rw [hlight, ← htold]
  exact light_resetLights _ ch

/-- The latches go clear, and nothing else of the trigger unit changes (R101). -/
theorem resetBlocks_trig (entries : List Entry) (s : State) :
    (resetBlocks entries s).trig = { s.trig with latchA := .clear, latchB := .clear, latchSoft := .clear } := by
  have hblank : (blankRequest (restartLink (resetLights (entries.foldl tellReset s)))).trig = s.trig :=
    calc (blankRequest (restartLink (resetLights (entries.foldl tellReset s)))).trig
        = (restartLink (resetLights (entries.foldl tellReset s))).trig := (congrArg State.trig (blankRequest_others _) :)
      _ = (resetLights (entries.foldl tellReset s)).trig := (congrArg State.trig restartLink_others :)
      _ = s.trig := (congrArg State.trig (tellResets_frame entries s) :)
  rw [resetBlocks, clearLatches, hblank]

theorem restartLink_failed {s : State} (h : s.link.state = .failed) : (restartLink s).link = s.link.sendBlank := by
  rw [restartLink, if_pos h]
  rfl

theorem restartLink_up {s : State} (h : s.link.state ≠ .failed) : restartLink s = s := if_neg h

theorem resetBlocks_link (entries : List Entry) (s : State) :
    (s.link.state = .failed → (resetBlocks entries s).link.state = .awaitBlanked)
    ∧ (s.link.state = .idle → (resetBlocks entries s).link = s.link.sendBlank) := by
  have htold : (resetLights (entries.foldl tellReset s)).link = s.link :=
    (congrArg State.link (tellResets_frame entries s) :)
  refine ⟨fun hfailed => ?_, fun hidle => ?_⟩
  · have hrestart := restartLink_failed (htold ▸ hfailed)
    have hblank := blankRequest_link (s := restartLink (resetLights (entries.foldl tellReset s))) |>.2
      (by rw [hrestart]; exact nofun)
    exact (congrArg Link.state hblank :).trans (congrArg Link.state hrestart)
  · have hrestart : restartLink (resetLights (entries.foldl tellReset s)) = resetLights (entries.foldl tellReset s) :=
      restartLink_up (by rw [htold, hidle]; exact nofun)
    have hblank := blankRequest_link (s := resetLights (entries.foldl tellReset s)) |>.1 (by rw [htold, hidle])
    show (blankRequest (restartLink (resetLights (entries.foldl tellReset s)))).link = _
    rw [hrestart, hblank, htold]

end

/-! ## RESET_PLAYER as a whole -/

section
variable {s : State} {p : PortId}

/-- What RESET_PLAYER leaves before the uses are released and its requester is answered. -/
def resetLeaves (s : State) : State := clearPlayer { resetBlocks s.queue (resetTold s) with queue := [] }

theorem exec_resetPlayer_control (h : Asked s p .resetPlayer (.atBlock .player) []) (hcls : (s.port p).cls = .control) :
    exec (.resetPlayer p) s = .next
      ((useReleases (resetUses s ++ s.queue.flatMap Entry.uses) (resetLeaves s)).reply p
        { status := .done, body := u8 (resetUses s).length ++ u8 s.queue.length }) := by
  rw [exec_resetPlayer_asked h, resetPlayer, ofLength_of_length_eq (n := 0) (body := []) rfl, controlOnly_of_control hcls]
  exact congrArg (fun t : State => Host.Outcome.next (t.reply p
    { status := .done, body := u8 (resetUses s).length ++ u8 s.queue.length })) (resetPlayer_control s)

theorem resetUses_contexts (s : State) : resetUses s = (s.player.out.contexts ++ s.player.stack).map Context.seq := by
  rw [resetUses, Output.contexts, List.map_append]
  cases s.player.out.context? <;> rfl

/-- All the notices that RESET_PLAYER hands a port, in the order of R101. -/
def resetNotices (s : State) (q : PortId) : List Notice :=
  holderNotices s q ++ stackNotices s.player.stack q ++ entryNotices s.queue q
    ++ if s.link.state = .failed ∧ (s.port q).cls = .control then [.linkChanged .awaitBlanked .failed true] else []

theorem resetLeaves_tells (s : State) : Tells s (resetLeaves s) (resetNotices s) := by
  have htold := resetTold_tells s
  refine ((htold.trans (resetBlocks_tells s.queue (resetTold s))).then_ports rfl).congr fun q => ?_
  rw [htold.cls, (resetTold_keeps s).linkState, resetNotices, List.append_assoc (holderNotices s q ++ _)]

theorem resetLeaves_others (s : State) :
    { resetLeaves s with
      ports := s.ports, slots := s.slots, queue := s.queue, link := s.link, fromLink := s.fromLink, lights := s.lights
      trig := s.trig, player := s.player } = s := by
  have hblocks := resetBlocks_others s.queue (resetTold s)
  have hrest := (resetTold_keeps s).rest
  have hqueue : { resetTold s with
      ports := s.ports, slots := s.slots, queue := s.queue, link := s.link, fromLink := s.fromLink, lights := s.lights
      trig := s.trig, player := s.player } = s := (congrArg (fun v : State => { v with queue := s.queue }) hrest :)
  exact (congrArg (fun v : State => { v with
    ports := s.ports, slots := s.slots, queue := s.queue, link := s.link, fromLink := s.fromLink, lights := s.lights
    trig := s.trig, player := s.player }) hblocks :).trans hqueue

theorem resetLeaves_player (s : State) :
    (resetLeaves s).player = { (resetTold s).player with
      out := .idle, stack := [], holdTimer := none, gapTimer := none, faultRecord := none, haltRecord := none } := by
  rw [← resetBlocks_player (s := resetTold s) s.queue]
  rfl

theorem resetLeaves_light (s : State) (ch : ChannelId) :
    ((resetLeaves s).light ch).on = false ∧ ((resetLeaves s).light ch).trip = false
      ∧ ((resetLeaves s).light ch).limit = (s.light ch).limit := by
  obtain ⟨hon, htrip, hlimit⟩ := light_resetBlocks s.queue (resetTold s) ch
  exact ⟨hon, htrip, hlimit.trans ((resetTold_keeps s).limit ch)⟩

theorem resetLeaves_trig (s : State) :
    (resetLeaves s).trig = { (resetTold s).trig with latchA := .clear, latchB := .clear, latchSoft := .clear } :=
  resetBlocks_trig s.queue (resetTold s)

theorem resetLeaves_link (s : State) :
    (s.link.state = .failed → (resetLeaves s).link.state = .awaitBlanked)
    ∧ (s.link.state = .idle → (resetLeaves s).link.state = .awaitBlanked ∧ (resetLeaves s).link.timer = some 2000) := by
  obtain ⟨hfailed, hidle⟩ := resetBlocks_link s.queue (resetTold s)
  have hstate := (resetTold_keeps s).linkState
  exact ⟨fun h => hfailed (hstate.trans h), fun h =>
    ⟨(congrArg Link.state (hidle (hstate.trans h)) :), (congrArg Link.timer (hidle (hstate.trans h)) :)⟩⟩

/-- The pins that go with the shows of a holding are those that the end of the holding releases. -/
theorem resetLeaves_stored (s : State) : (resetLeaves s).stored (endDirect s) = resetLeaves s := by
  have hslots : (resetLeaves s).slots = (endDirect s).slots :=
    (congrArg State.slots (resetBlocks_others s.queue (resetTold s)) :).trans (resetTold_slots s)
  have hseqs : (resetLeaves s).seqs = (endDirect s).seqs :=
    (congrArg State.seqs (resetLeaves_others s) :).trans (congrArg State.seqs (endDirect_others s) :).symm
  have hpool : (resetLeaves s).poolFree = (endDirect s).poolFree :=
    (congrArg State.poolFree (resetLeaves_others s) :).trans (congrArg State.poolFree (endDirect_others s) :).symm
  rw [State.stored, ← hslots, ← hseqs, ← hpool]

/-- Settles O33: the releases of the uses, which touch what is stored alone, come after all else that RESET_PLAYER does. -/
theorem resetPlayerEmptiesTheOutputSide : Obligations.ResetPlayerEmptiesTheOutputSide := by
  unfold Obligations.ResetPlayerEmptiesTheOutputSide
  intro s p h hcls aborted holder notices answer uses released
  have huses : resetUses s ++ s.queue.flatMap Entry.uses = uses := by
    rw [resetUses_contexts]
    refine congrArg (_ ++ ·) (congrArg (fun f => List.flatMap f s.queue) (funext fun e => ?_))
    unfold Entry.uses
    cases e.ask <;> rfl
  have hexec := exec_resetPlayer_control h hcls
  rw [huses] at hexec
  have hnotices : ∀ q, notices q = resetNotices s q := fun q => by
    have hholder : holder q = holderNotices s q := by
      dsimp only [holder]
      unfold holderNotices
      cases s.player.out <;> rfl
    simp only [notices, hholder, resetNotices]
    rfl
  have hstored : useReleases uses (resetLeaves s) = (resetLeaves s).stored released := by
    have hcomm := useReleases_stored uses (resetLeaves s) (endDirect s)
    rwa [resetLeaves_stored] at hcomm
  rw [hstored] at hexec
  have htells := resetLeaves_tells s
  have hkeeps := resetTold_keeps s
  have hplayer := resetLeaves_player s
  have htrig := resetLeaves_trig s
  have hothers := resetLeaves_others s
  have hlight := resetLeaves_light s
  obtain ⟨hfailed, hidle⟩ := resetLeaves_link s
  have hqueue : (resetLeaves s).queue = [] := rfl
  generalize resetLeaves s = w at *
  refine ⟨_, hexec, (congrArg Player.out hplayer :), (congrArg Player.stack hplayer :), hqueue,
    (congrArg Player.holdTimer hplayer :), (congrArg Player.gapTimer hplayer :), (congrArg Player.faultRecord hplayer :),
    (congrArg Player.haltRecord hplayer :), (congrArg Player.holdLevel hplayer :).trans hkeeps.holdLevel,
    (congrArg Player.designated hplayer :).trans hkeeps.designated, (congrArg Player.linkUp hplayer :).trans hkeeps.linkUp,
    hlight, ?_, (congrArg Trigger.cfgA htrig :).trans hkeeps.cfgA, (congrArg Trigger.cfgB htrig :).trans hkeeps.cfgB,
    (congrArg Trigger.timeout htrig :).trans hkeeps.timeout, hfailed, hidle, (congrArg State.lib hothers :),
    (congrArg State.planeMem hothers :), (congrArg State.announcements hothers :), (congrArg State.selects hothers :),
    (congrArg State.pending hothers :), (congrArg State.resetLow hothers :), ?_, rfl, rfl, rfl⟩
  · intro x
    show w.trig.latch x = _
    rw [htrig]
    cases x <;> rfl
  · intro q
    have hlength : (resetUses s).length = s.player.out.contexts.length + s.player.stack.length := by
      rw [resetUses_contexts, List.length_map, List.length_append]
    rw [hnotices, State.port_reply, hlength]
    by_cases hq : q = p
    · subst hq
      rw [if_pos rfl, if_pos rfl]
      exact congrArg (· ++ [answer]) (htells.inbox q)
    · rw [if_neg hq, if_neg hq, List.append_nil]
      exact htells.inbox q

end

end Sys2Proof.Machine
